-- ==== Sys2Proof/Word.lean ====
section
/-! DEFINITION. The data types of the core: every datum is a byte, and the arrays of bytes have the fixed
sizes of spec/00_scope.md rule R5. -/

namespace Sys2Proof

/-- An 8-bit unsigned value, an element of GF(2⁸); bit i is the coefficient of x^i (00_scope.md R6). -/
abbrev Byte := BitVec 8

/-- Four consecutive bytes of the key schedule; index 0 is its "first byte" (44_key_schedule.md R191). -/
abbrev Word := Vector Byte 4

/-- A block, a key or a round key: byte i is at row `i mod 4`, column `i div 4` (10_state.md R21). -/
abbrev Block := Vector Byte 16

/-- The expanded key schedule W (10_state.md R23). -/
abbrev Schedule := Vector Byte 176

/-- The inverse table INVTAB (10_state.md R25). -/
abbrev Table := Vector Byte 256

/-- The eleven snapshots OBS[0..10] (10_state.md R28). -/
abbrev Snapshots := Vector Block 11

end Sys2Proof
end

