-- ==== Sys2Proof/Syntax.lean ====
section
/-! DEFINITION. The commands of the core, one constructor per row of spec/opcode_table.json
(30_encoding.md R94). -/

namespace Sys2Proof

/-- A command. Only MULXN carries an operand in its byte, the count `n` (30_encoding.md R92, R93); every
other operand stands in a fixed register. -/
inductive Instr where
  | nop
  | add
  | mulx
  | mulxn (n : Nat)
  | mul
  | inv
  | sbox
  | initinv
  | keyexp
  | ark
  | sub
  | shr
  | mix
  | enc
  | enck
  deriving DecidableEq, Repr

end Sys2Proof
end

