-- ==== Sys2Proof/WellFormed.lean ====
section
/-! DEFINITION. Which terms of `Instr` are commands of the core. -/

namespace Sys2Proof

/-- The one bound on a command's operand: the count of MULXN is a 3-bit field, 0 to 7 (00_scope.md R5,
30_encoding.md R92). -/
def wellFormed : Instr → Bool
  | .mulxn n => decide (n ≤ 7)
  | .nop | .add | .mulx | .mul | .inv | .sbox | .initinv | .keyexp
  | .ark | .sub | .shr | .mix | .enc | .enck => true

end Sys2Proof
end

