-- ==== Sys2Proof/Decode.lean ====
section
/-! DEFINITION. The decoder of the command byte and its encoder (30_encoding.md R90 to R98). -/

namespace Sys2Proof

/-- Why a command byte is illegal (93_implementation_defined.md V1 to V3). -/
inductive Illegal where
  /-- Bit 7 (RSV) is set. -/
  | reservedBit
  /-- OP is 0xF. -/
  | reservedOp
  /-- N is not zero and OP is not MULXN's. -/
  | countNotZero
  deriving DecidableEq, Repr

/-- What the decoder makes of a byte: a command, or a rejection by name (30_encoding.md R98). -/
inductive Decoded where
  | ok (i : Instr)
  | illegal (why : Illegal)
  deriving DecidableEq, Repr

/-- Field RSV, bit 7 (R90). -/
def fieldRsv (c : Byte) : Bool := c.getLsbD 7

/-- Field N, bits 6:4 (R92). -/
def fieldN (c : Byte) : BitVec 3 := c.extractLsb' 4 3

/-- Field OP, bits 3:0 (R91). -/
def fieldOp (c : Byte) : BitVec 4 := c.extractLsb' 0 4

/-- Legality of a command byte (30_encoding.md R95). -/
def legal (c : Byte) : Bool :=
  !fieldRsv c && fieldOp c != 0xF#4 && (fieldOp c == 0x3#4 || fieldN c == 0#3)

/-- The operation the field OP selects, with the count for MULXN; none for the reserved 0xF (R94). -/
def selectOp (op : BitVec 4) (n : Nat) : Option Instr :=
  match op.toNat with
  | 0x0 => some .nop
  | 0x1 => some .add
  | 0x2 => some .mulx
  | 0x3 => some (.mulxn n)
  | 0x4 => some .mul
  | 0x5 => some .inv
  | 0x6 => some .sbox
  | 0x7 => some .initinv
  | 0x8 => some .keyexp
  | 0x9 => some .ark
  | 0xA => some .sub
  | 0xB => some .shr
  | 0xC => some .mix
  | 0xD => some .enc
  | 0xE => some .enck
  | _ => none

/-- The decoder, total on all 256 bytes (30_encoding.md R98). -/
def decode (c : Byte) : Decoded :=
  if fieldRsv c then .illegal .reservedBit
  else match selectOp (fieldOp c) (fieldN c).toNat with
    | none => .illegal .reservedOp
    | some i => if fieldOp c ≠ 0x3#4 ∧ fieldN c ≠ 0#3 then .illegal .countNotZero else .ok i

/-- The command byte of a command, written from the opcode map (30_encoding.md R94). -/
def encode : Instr → Byte
  | .nop => 0x00#8
  | .add => 0x01#8
  | .mulx => 0x02#8
  | .mulxn n => 0x03#8 ||| (BitVec.ofNat 8 n <<< 4)
  | .mul => 0x04#8
  | .inv => 0x05#8
  | .sbox => 0x06#8
  | .initinv => 0x07#8
  | .keyexp => 0x08#8
  | .ark => 0x09#8
  | .sub => 0x0A#8
  | .shr => 0x0B#8
  | .mix => 0x0C#8
  | .enc => 0x0D#8
  | .enck => 0x0E#8

/-- The command a decoding gives, none for an illegal byte. -/
def Decoded.instr? : Decoded → Option Instr
  | .ok i => some i
  | .illegal _ => none

/-- The command byte in the bits of a row of spec/opcode_table.json: a command is one byte long. -/
def tableByte (nbits w : Nat) : Byte := BitVec.ofNat 8 (w % 2 ^ nbits)

/-- What the decoder reads from the bits of a row of spec/opcode_table.json. -/
def decodeTableWord (nbits w : Nat) : Option Instr := (decode (tableByte nbits w)).instr?

end Sys2Proof
end

