-- ==== Sys2Proof/Config.lean ====
section
/-! DEFINITION. What an implementation fixes, and the free values of the spec (00_scope.md R5,
93_implementation_defined.md section 1). -/

namespace Sys2Proof

/-- The parameters of a part that some rule reads. They stand in `State` as plain data that no step
changes, so that one step function covers both kinds of part. -/
structure Params where
  /-- INV_PRELOADED: the inverse table is valid from reset (00_scope.md R5, 92_eei_decisions.md D6). -/
  invPreloaded : Bool
  deriving DecidableEq, Repr

/-- The parameters' default: the inverse table is a ROM (00_scope.md R5). -/
def Params.standard : Params := ⟨true⟩

/-- The value a data register holds after reset in this model. The spec gives none (10_state.md R41,
R42: ⊥). DESIGN CHOICE, unsafe: notes/assumptions/1.md. -/
def Config.unwritten : Byte := 0x00#8

/-- Free value: the byte that the `k`-th unspecified read returns, when the address is not PHASE
(20_memory.md R69, 93_implementation_defined.md U3). -/
opaque Config.busyByte : Nat → Byte

/-- Free value: what the `k`-th unspecified read returns when it reads PHASE: a value in 0x00 to 0x0A
(10_state.md R33, 93_implementation_defined.md U4). -/
opaque Config.busyPhase : Nat → Fin 11

/-- Parameter CORE_BASE: where a system places the register space. No rule reads it, so no definition
does (20_memory.md R80, 93_implementation_defined.md U12). -/
opaque Config.coreBase : Nat

/-- Parameter LAT(op): the engine cycles of the `k`-th command issued, finite and otherwise open. No rule
depends on it, so no definition reads it (70_reset_and_hazards.md R281, 93_implementation_defined.md U5). -/
opaque Config.latency : Nat → Nat

end Sys2Proof
end

