-- ==== Sys2Proof/Machine/Field.lean ====
section
/-! DEFINITION. The arithmetic of GF(2⁸) (41_field_arithmetic.md section 1). -/

namespace Sys2Proof.Machine

open Sys2Proof

/-- Field addition (R130). -/
def gadd (a b : Byte) : Byte := a ^^^ b

/-- Multiplication by x: the shift is truncated to 8 bits before the reduction constant is added (R131,
90_conflicts.md C4). -/
def xtime (a : Byte) : Byte := (a <<< 1) ^^^ (if a.getLsbD 7 then 0x1B#8 else 0x00#8)

/-- Repeated multiplication by x (R132). -/
def xtimes (a : Byte) : Nat → Byte
  | 0 => a
  | n + 1 => xtime (xtimes a n)

/-- General multiplication: the sum of `xtimes a i` over the set bits i of b (R133). -/
def gmul (a b : Byte) : Byte :=
  (List.range 8).foldl (fun r i => if b.getLsbD i then gadd r (xtimes a i) else r) 0x00#8

end Sys2Proof.Machine
end

