-- ==== Sys2Proof/Machine/InvTable.lean ====
section
/-! DEFINITION. The inverse table: the builder and the ROM's contents (42_inverse_table.md section 1). -/

namespace Sys2Proof.Machine

open Sys2Proof

/-- The entry of a table at a byte address. -/
def tableEntry (T : Table) (a : Byte) : Byte := T[a.toNat]'a.isLt

/-- The body and the test of the builder's post-test loop, at most `fuel` iterations (R150). -/
def buildLoop : Nat → Table → Byte → Byte → Table
  | 0, T, _, _ => T
  | fuel + 1, T, i, j =>
    let T' : Table := T.set i.toNat j i.isLt
    let i' := gmul i 0x03#8
    let j' := gmul j 0xF6#8
    if i' = j' then T' else buildLoop fuel T' i' j'

/-- The inverse table builder (R150). The loop runs exactly 255 iterations (R151), so 255 bound it. -/
def buildInv : Table :=
  buildLoop 255 (Vector.replicate 256 0x00#8) 0x01#8 0x01#8

/-! The ROM's contents, row by row of R152: row h is the addresses with high nibble h. -/

/-- Row 0 of R152. -/
def invRow0 : List Byte :=
  [0x00, 0x01, 0x8d, 0xf6, 0xcb, 0x52, 0x7b, 0xd1, 0xe8, 0x4f, 0x29, 0xc0, 0xb0, 0xe1, 0xe5, 0xc7]

/-- Row 1 of R152. -/
def invRow1 : List Byte :=
  [0x74, 0xb4, 0xaa, 0x4b, 0x99, 0x2b, 0x60, 0x5f, 0x58, 0x3f, 0xfd, 0xcc, 0xff, 0x40, 0xee, 0xb2]

/-- Row 2 of R152. -/
def invRow2 : List Byte :=
  [0x3a, 0x6e, 0x5a, 0xf1, 0x55, 0x4d, 0xa8, 0xc9, 0xc1, 0x0a, 0x98, 0x15, 0x30, 0x44, 0xa2, 0xc2]

/-- Row 3 of R152. -/
def invRow3 : List Byte :=
  [0x2c, 0x45, 0x92, 0x6c, 0xf3, 0x39, 0x66, 0x42, 0xf2, 0x35, 0x20, 0x6f, 0x77, 0xbb, 0x59, 0x19]

/-- Row 4 of R152. -/
def invRow4 : List Byte :=
  [0x1d, 0xfe, 0x37, 0x67, 0x2d, 0x31, 0xf5, 0x69, 0xa7, 0x64, 0xab, 0x13, 0x54, 0x25, 0xe9, 0x09]

/-- Row 5 of R152. -/
def invRow5 : List Byte :=
  [0xed, 0x5c, 0x05, 0xca, 0x4c, 0x24, 0x87, 0xbf, 0x18, 0x3e, 0x22, 0xf0, 0x51, 0xec, 0x61, 0x17]

/-- Row 6 of R152. -/
def invRow6 : List Byte :=
  [0x16, 0x5e, 0xaf, 0xd3, 0x49, 0xa6, 0x36, 0x43, 0xf4, 0x47, 0x91, 0xdf, 0x33, 0x93, 0x21, 0x3b]

/-- Row 7 of R152. -/
def invRow7 : List Byte :=
  [0x79, 0xb7, 0x97, 0x85, 0x10, 0xb5, 0xba, 0x3c, 0xb6, 0x70, 0xd0, 0x06, 0xa1, 0xfa, 0x81, 0x82]

/-- Row 8 of R152. -/
def invRow8 : List Byte :=
  [0x83, 0x7e, 0x7f, 0x80, 0x96, 0x73, 0xbe, 0x56, 0x9b, 0x9e, 0x95, 0xd9, 0xf7, 0x02, 0xb9, 0xa4]

/-- Row 9 of R152. -/
def invRow9 : List Byte :=
  [0xde, 0x6a, 0x32, 0x6d, 0xd8, 0x8a, 0x84, 0x72, 0x2a, 0x14, 0x9f, 0x88, 0xf9, 0xdc, 0x89, 0x9a]

/-- Row A of R152. -/
def invRowA : List Byte :=
  [0xfb, 0x7c, 0x2e, 0xc3, 0x8f, 0xb8, 0x65, 0x48, 0x26, 0xc8, 0x12, 0x4a, 0xce, 0xe7, 0xd2, 0x62]

/-- Row B of R152. -/
def invRowB : List Byte :=
  [0x0c, 0xe0, 0x1f, 0xef, 0x11, 0x75, 0x78, 0x71, 0xa5, 0x8e, 0x76, 0x3d, 0xbd, 0xbc, 0x86, 0x57]

/-- Row C of R152. -/
def invRowC : List Byte :=
  [0x0b, 0x28, 0x2f, 0xa3, 0xda, 0xd4, 0xe4, 0x0f, 0xa9, 0x27, 0x53, 0x04, 0x1b, 0xfc, 0xac, 0xe6]

/-- Row D of R152. -/
def invRowD : List Byte :=
  [0x7a, 0x07, 0xae, 0x63, 0xc5, 0xdb, 0xe2, 0xea, 0x94, 0x8b, 0xc4, 0xd5, 0x9d, 0xf8, 0x90, 0x6b]

/-- Row E of R152. -/
def invRowE : List Byte :=
  [0xb1, 0x0d, 0xd6, 0xeb, 0xc6, 0x0e, 0xcf, 0xad, 0x08, 0x4e, 0xd7, 0xe3, 0x5d, 0x50, 0x1e, 0xb3]

/-- Row F of R152. -/
def invRowF : List Byte :=
  [0x5b, 0x23, 0x38, 0x34, 0x68, 0x46, 0x03, 0x8c, 0xdd, 0x9c, 0x7d, 0xa0, 0xcd, 0x1a, 0x41, 0x1c]

/-- The ROM's 256 entries, the rows one after the other (R152). -/
def invRom : Table :=
  ⟨⟨[invRow0, invRow1, invRow2, invRow3, invRow4, invRow5, invRow6, invRow7,
     invRow8, invRow9, invRowA, invRowB, invRowC, invRowD, invRowE, invRowF].flatten⟩, by decide +kernel⟩

end Sys2Proof.Machine
end

