-- ==== Sys2Proof/Machine/State.lean ====
section
/-! DEFINITION. The state of the machine as plain data (10_state.md), why a step may stop, and the state
after reset. -/

namespace Sys2Proof.Machine

open Sys2Proof

/-- One step of one agent (40_control.md R110). -/
inductive Event where
  /-- The host reads one byte, `MemRead(addr, 1)`. -/
  | read (addr : Byte)
  /-- The host writes one byte, `MemWrite(addr, 1, data)`. -/
  | write (addr data : Byte)
  /-- The engine completes the command in flight. -/
  | complete
  /-- Reset. -/
  | reset
  deriving DecidableEq, Repr

/-- Everything the spec gives the core (10_state.md R20), then the model's own five fields. STATUS.BUSY is
no field: it is exactly "a command is in flight" (10_state.md R38). -/
structure State where
  /-- STATE[0..15] (R21). -/
  stateReg : Block
  /-- KEY[0..15] (R22). -/
  key : Block
  /-- W[0..175] (R23). -/
  w : Schedule
  /-- INVTAB[0..255] (R25). -/
  invtab : Table
  /-- OBS[0..10] (R28). -/
  obs : Snapshots
  /-- OPA (R29). -/
  opa : Byte
  /-- OPB (R29). -/
  opb : Byte
  /-- RES (R29). -/
  res : Byte
  /-- CMD (R30). -/
  cmd : Byte
  /-- STATUS.DONE (R31). -/
  done : Bool
  /-- STATUS.ERR (R31). -/
  err : Bool
  /-- STATUS.INV_READY (R31). -/
  invReady : Bool
  /-- STATUS.KEY_VALID (R31). -/
  keyValid : Bool
  /-- STATUS.WDROP (R31). -/
  wdrop : Bool
  /-- ERRCODE (R32). -/
  errcode : Byte
  /-- PHASE (R33). -/
  phase : Byte
  /-- RKSEL (R34). -/
  rksel : BitVec 4
  /-- OBSSEL (R35). -/
  obssel : BitVec 4
  /-- PENDING: the command byte in flight, or none (R38). -/
  pending : Option Byte
  /-- The model's own: the part's parameters, which no step changes (00_scope.md R5). -/
  params : Params
  /-- The model's own: which agent moves next, and what it does (40_control.md R110). When the list is
  empty the engine moves alone. -/
  agenda : List Event
  /-- The model's own: the bytes that bus reads returned to the host, the latest first. -/
  returned : List Byte
  /-- The model's own: how many unspecified reads there have been, the index of the next free value. -/
  draws : Nat
  /-- The model's own: a command was issued before the inverse table was valid, the source's "fatal
  precondition failure" (90_conflicts.md C5, 93_implementation_defined.md U2). -/
  fatal : Bool
  deriving DecidableEq, Repr

/-- Why a step stops with a fault: never. The core "never traps, vectors or halts" (60_exceptions.md
R240): every error is recorded in STATUS and ERRCODE and the machine goes on, so no reason exists. -/
inductive Fault where
  deriving DecidableEq, Repr

/-- Why a step is refused. -/
inductive Refusal where
  /-- Raised by an arm of `exec` whose command has no meaning yet: by none, since every command has one.
  Safe: the model stops where the hardware goes on. -/
  | notModelled (mnemonic : String)
  deriving DecidableEq, Repr

/-- The state after reset of a part with parameters `p` (10_state.md R41). The data registers hold
`Config.unwritten`, the model's choice (notes/assumptions/1.md). -/
def State.resetFor (p : Params) : State where
  stateReg := Vector.replicate 16 Config.unwritten
  key := Vector.replicate 16 Config.unwritten
  w := Vector.replicate 176 Config.unwritten
  invtab := if p.invPreloaded then invRom else Vector.replicate 256 Config.unwritten
  obs := Vector.replicate 11 (Vector.replicate 16 Config.unwritten)
  opa := Config.unwritten
  opb := Config.unwritten
  res := Config.unwritten
  cmd := 0x00#8
  done := false
  err := false
  invReady := p.invPreloaded
  keyValid := false
  wdrop := false
  errcode := 0x00#8
  phase := 0x00#8
  rksel := 0#4
  obssel := 0#4
  pending := none
  params := p
  agenda := []
  returned := []
  draws := 0
  fatal := false

/-- The machine right after reset, with the parameters' defaults. -/
def State.reset : State := State.resetFor Params.standard

end Sys2Proof.Machine
end

