-- ==== Sys2Proof/Machine/Ops.lean ====
section
/-! DEFINITION. The named operations over the state: the register writes, the issue of a command, its two
ways of completing (performed, or with an error), and reset. -/

namespace Sys2Proof.Machine

open Sys2Proof

/-- The error codes of ERRCODE other than NONE (60_exceptions.md R241). -/
inductive ErrCode where
  | illegalCmd
  | invtabNotInit
  | noKey
  | badIndex
  deriving DecidableEq, Repr

/-- The byte ERRCODE holds for a code (60_exceptions.md R241). -/
def errByte : ErrCode → Byte
  | .illegalCmd => 0x01#8
  | .invtabNotInit => 0x02#8
  | .noKey => 0x03#8
  | .badIndex => 0x04#8

/-- STATUS.BUSY, exactly `PENDING ≠ none` (10_state.md R38). -/
def busy (s : State) : Bool := s.pending.isSome

/-! ### Writes by the engine -/

/-- RES <- v. -/
def setRes (v : Byte) (s : State) : State := { s with res := v }

/-- STATE <- b. -/
def setStateReg (b : Block) (s : State) : State := { s with stateReg := b }

/-- W <- w and KEY_VALID <- 1 (44_key_schedule.md R196). -/
def setSchedule (w : Schedule) (s : State) : State := { s with w := w, keyValid := true }

/-- INVTAB <- T and INV_READY <- 1 (42_inverse_table.md R155). -/
def setTable (T : Table) (s : State) : State := { s with invtab := T, invReady := true }

/-- STATE, OBS and PHASE at the end of an encryption (45_round_pipeline.md R220). -/
def setCipher (b : Block) (snap : Snapshots) (s : State) : State :=
  { s with stateReg := b, obs := snap, phase := 0x0B#8 }

/-! ### Writes by the host -/

/-- STATE[i] <- v (20_memory.md R63). -/
def setStateByte (i : Fin 16) (v : Byte) (s : State) : State :=
  { s with stateReg := s.stateReg.set i.val v i.isLt }

/-- KEY[i] <- v and KEY_VALID <- 0, whatever the old byte was (20_memory.md R66). -/
def setKeyByte (i : Fin 16) (v : Byte) (s : State) : State :=
  { s with key := s.key.set i.val v i.isLt, keyValid := false }

/-- OPA <- v. -/
def setOpa (v : Byte) (s : State) : State := { s with opa := v }

/-- OPB <- v. -/
def setOpb (v : Byte) (s : State) : State := { s with opb := v }

/-- RKSEL <- v[3:0] (10_state.md R34). -/
def setRksel (v : Byte) (s : State) : State := { s with rksel := v.extractLsb' 0 4 }

/-- OBSSEL <- v[3:0] (10_state.md R35). -/
def setObssel (v : Byte) (s : State) : State := { s with obssel := v.extractLsb' 0 4 }

/-- WDROP <- 1: the one effect of a host write while BUSY = 1 (20_memory.md R68). -/
def dropWrite (s : State) : State := { s with wdrop := true }

/-- The issue of a command byte, legal or not (40_control.md R111). -/
def issue (v : Byte) (s : State) : State :=
  { s with cmd := v, done := false, err := false, errcode := 0x00#8, wdrop := false, pending := some v }

/-! ### Completion of a command -/

/-- The error entry (60_exceptions.md R247): ERR, ERRCODE, DONE and PENDING are written and nothing else of
the core is. The model's own record of the source's fatal precondition failure is set with
INVTAB_NOT_INIT (90_conflicts.md C5). There is no return from an error: the next issue clears it (R249). -/
def errorEntry (e : ErrCode) (s : State) : State :=
  { s with
    err := true, errcode := errByte e, done := true, pending := none,
    fatal := s.fatal || decide (e = .invtabNotInit) }

/-- The end of a command that was performed: DONE <- 1, PENDING <- none (40_control.md R112). -/
def finish (s : State) : State := { s with done := true, pending := none }

/-- The completion step of a command in state `s` (40_control.md R112): the error its check found, or the
state `performed` that its rule gives. -/
def complete (found : Option ErrCode) (performed s : State) : Host.Outcome State Fault Refusal :=
  match found with
  | some e => .next (errorEntry e s)
  | none => .next (finish performed)

/-! ### The model's own fields, and reset -/

/-- A bus read returned `v`; `n` unspecified values have been drawn by then. -/
def logRead (v : Byte) (n : Nat) (s : State) : State :=
  { s with returned := v :: s.returned, draws := n }

/-- The moves that are left. -/
def setAgenda (l : List Event) (s : State) : State := { s with agenda := l }

/-- The reset step: every piece of the core's state takes its value of 10_state.md R41 in one step, and a
command in flight is abandoned (70_reset_and_hazards.md R270). The model's own fields are no part of the
core and stay. -/
def resetStep (s : State) : State :=
  { State.resetFor s.params with
    agenda := s.agenda, returned := s.returned, draws := s.draws, fatal := s.fatal }

end Sys2Proof.Machine
end

