-- ==== Sys2Proof/Machine/Operands.lean ====
section
/-! DEFINITION. Where operands stand: the register map of the bus, the round key and snapshot windows, and
which bus addresses a command may change. -/

namespace Sys2Proof.Machine

open Sys2Proof

/-- What stands at a bus address (20_memory.md R61). -/
inductive Loc where
  | state (i : Fin 16)
  | key (i : Fin 16)
  | opa
  | opb
  | res
  | cmd
  | status
  | errcode
  | phase
  | rksel
  | obssel
  | rkwin (j : Fin 16)
  | obswin (j : Fin 16)
  | reserved
  deriving DecidableEq, Repr

/-- The place of an address in its group of sixteen. -/
def lowNibble (a : Byte) : Fin 16 := (a.extractLsb' 0 4).toFin

/-- The register map, total on all 256 addresses (20_memory.md R61). -/
def locate (a : Byte) : Loc :=
  match (a.extractLsb' 4 4).toNat with
  | 0x0 => .state (lowNibble a)
  | 0x1 => .key (lowNibble a)
  | 0x2 =>
    match (lowNibble a).val with
    | 0x0 => .opa
    | 0x1 => .opb
    | 0x2 => .res
    | 0x3 => .cmd
    | 0x4 => .status
    | 0x5 => .errcode
    | 0x6 => .phase
    | 0x7 => .rksel
    | 0x8 => .obssel
    | _ => .reserved
  | 0x4 => .rkwin (lowNibble a)
  | 0x5 => .obswin (lowNibble a)
  | _ => .reserved

/-- Round key r of a schedule, the bytes W[16r..16r+15], for r in 0 to 10 (10_state.md R23). -/
def roundKey (w : Schedule) (r : Nat) : Block :=
  Vector.ofFn fun i : Fin 16 => (w[16 * r + i.val]?).getD 0x00#8

/-- Whether a selector names one of the eleven round keys or snapshots (10_state.md R34, R35). -/
def selects (sel : BitVec 4) : Bool := decide (sel.toNat ≤ 10)

/-- RKWIN[j] of a schedule and a selector: W[16·RKSEL + j], or 0x00 where RKSEL selects no round key
(20_memory.md R81). -/
def rkwin (w : Schedule) (sel : BitVec 4) (j : Fin 16) : Byte :=
  if selects sel then (roundKey w sel.toNat)[j.val] else 0x00#8

/-- OBSWIN[j] of the snapshots and a selector: OBS[OBSSEL][j], or 0x00 where OBSSEL selects none
(20_memory.md R81). -/
def obswin (obs : Snapshots) (sel : BitVec 4) (j : Fin 16) : Byte :=
  if h : sel.toNat < 11 then (obs[sel.toNat])[j.val] else 0x00#8

/-- The first scalar operand a (10_state.md R29). -/
def operandA (s : State) : Byte := s.opa

/-- The second scalar operand b (10_state.md R29). -/
def operandB (s : State) : Byte := s.opb

/-- The round key that ARK adds, W[16·RKSEL..16·RKSEL+15] (45_round_pipeline.md R216). -/
def operandRoundKey (s : State) : Block := roundKey s.w s.rksel.toNat

/-- Whether a command reads INVTAB, directly or through the S-box (60_exceptions.md R243). -/
def readsTable : Instr → Bool
  | .inv | .sbox | .keyexp | .sub | .enc | .enck => true
  | .nop | .add | .mulx | .mulxn _ | .mul | .initinv | .ark | .shr | .mix => false

/-- Whether a command reads RKSEL (60_exceptions.md R245). -/
def readsSelector : Instr → Bool
  | .ark => true
  | .nop | .add | .mulx | .mulxn _ | .mul | .inv | .sbox | .initinv | .keyexp
  | .sub | .shr | .mix | .enc | .enck => false

/-- Whether a command needs a schedule that was expanded before it (60_exceptions.md R244). -/
def readsSchedule : Instr → Bool
  | .ark | .enc => true
  | .nop | .add | .mulx | .mulxn _ | .mul | .inv | .sbox | .initinv | .keyexp
  | .sub | .shr | .mix | .enck => false

/-- Whether a command may change STATE. -/
def writesState : Instr → Bool
  | .ark | .sub | .shr | .mix | .enc | .enck => true
  | .nop | .add | .mulx | .mulxn _ | .mul | .inv | .sbox | .initinv | .keyexp => false

/-- Whether a command may change RES. -/
def writesRes : Instr → Bool
  | .add | .mulx | .mulxn _ | .mul | .inv | .sbox => true
  | .nop | .initinv | .keyexp | .ark | .sub | .shr | .mix | .enc | .enck => false

/-- Whether a command may change W. -/
def writesSchedule : Instr → Bool
  | .keyexp | .enck => true
  | .nop | .add | .mulx | .mulxn _ | .mul | .inv | .sbox | .initinv
  | .ark | .sub | .shr | .mix | .enc => false

/-- Whether a command may change OBS and PHASE. -/
def writesSnapshots : Instr → Bool
  | .enc | .enck => true
  | .nop | .add | .mulx | .mulxn _ | .mul | .inv | .sbox | .initinv | .keyexp
  | .ark | .sub | .shr | .mix => false

/-- `writeSet` of a command, as a predicate on what stands at an address (40_control.md R115). -/
def inWriteSet (i : Instr) : Loc → Bool
  | .state _ => writesState i
  | .res => writesRes i
  | .rkwin _ => writesSchedule i
  | .phase | .obswin _ => writesSnapshots i
  | .key _ | .opa | .opb | .cmd | .status | .errcode | .rksel | .obssel | .reserved => false

end Sys2Proof.Machine
end

