-- ==== Sys2Proof/Machine/Flags.lean ====
section
/-! DEFINITION. The STATUS byte, and the checks that a command passes before it is performed. -/

namespace Sys2Proof.Machine

open Sys2Proof

/-- STATUS as the host reads it: bits 5 down to 0 are WDROP, KEY_VALID, INV_READY, ERR, DONE, BUSY and bits
7:6 are 0 (10_state.md R31, 20_memory.md R62). -/
def statusByte (s : State) : Byte :=
  (BitVec.ofBool s.wdrop ++ BitVec.ofBool s.keyValid ++ BitVec.ofBool s.invReady ++
    BitVec.ofBool s.err ++ BitVec.ofBool s.done ++ BitVec.ofBool (busy s)).zeroExtend 8

/-- Which error a legal command reports: the first in this order (60_exceptions.md R246). -/
def check (i : Instr) (s : State) : Option ErrCode :=
  if readsTable i && !s.invReady then some .invtabNotInit
  else if readsSelector i && !selects s.rksel then some .badIndex
  else if readsSchedule i && !s.keyValid then some .noKey
  else none

end Sys2Proof.Machine
end

