-- ==== Sys2Proof/Machine/Bus.lean ====
section
/-! DEFINITION. The host's two bus transactions (20_memory.md section 2). -/

namespace Sys2Proof.Machine

open Sys2Proof

/-- The exact value of what stands at an address (20_memory.md R62, its case table). -/
def regRead (s : State) : Loc → Byte
  | .state i => s.stateReg[i.val]
  | .key i => s.key[i.val]
  | .opa => s.opa
  | .opb => s.opb
  | .res => s.res
  | .cmd => s.cmd
  | .status => statusByte s
  | .errcode => s.errcode
  | .phase => s.phase
  | .rksel => s.rksel.zeroExtend 8
  | .obssel => s.obssel.zeroExtend 8
  | .rkwin j => rkwin s.w s.rksel j
  | .obswin j => obswin s.obs s.obssel j
  | .reserved => 0x00#8

/-- Whether a read of `l` is unspecified now: a command is in flight that may change it (20_memory.md R69).
An illegal byte in flight changes nothing (40_control.md R115). -/
def unspecified (s : State) (l : Loc) : Bool :=
  match s.pending with
  | none => false
  | some c =>
    match decode c with
    | .ok i => inWriteSet i l
    | .illegal _ => false

/-- The free value the `k`-th unspecified read returns; of PHASE, a value in 0x00 to 0x0A (10_state.md R33,
20_memory.md R69). -/
def freeByte (k : Nat) : Loc → Byte
  | .phase => BitVec.ofNat 8 (Config.busyPhase k).val
  | .state _ | .key _ | .opa | .opb | .res | .cmd | .status | .errcode | .rksel | .obssel
  | .rkwin _ | .obswin _ | .reserved => Config.busyByte k

/-- `MemRead(addr, 1)`: the byte goes to the host and no state of the core changes (20_memory.md R62, R70). -/
def memRead (addr : Byte) (s : State) : State :=
  if unspecified s (locate addr) then logRead (freeByte s.draws (locate addr)) (s.draws + 1) s
  else logRead (regRead s (locate addr)) s.draws s

/-- The effect of a write that the core accepts, BUSY being 0 (20_memory.md R63 to R67). -/
def regWrite (v : Byte) (s : State) : Loc → State
  | .state i => setStateByte i v s
  | .key i => setKeyByte i v s
  | .opa => setOpa v s
  | .opb => setOpb v s
  | .cmd => issue v s
  | .rksel => setRksel v s
  | .obssel => setObssel v s
  | .res | .status | .errcode | .phase | .rkwin _ | .obswin _ | .reserved => s

/-- `MemWrite(addr, 1, v)`: dropped while BUSY = 1 (20_memory.md R63, R68). -/
def memWrite (addr v : Byte) (s : State) : State :=
  if busy s then dropWrite s else regWrite v s (locate addr)

end Sys2Proof.Machine
end

