-- ==== Sys2Proof/Machine/Arith.lean ====
section
/-! DEFINITION. The adder and multiplier's commands ADD, MULX, MULXN, MUL (41_field_arithmetic.md section 2). -/

namespace Sys2Proof.Machine

open Sys2Proof

/-- ADD: RES <- OPA ⊕ OPB (R135). -/
def execAdd (s : State) : Host.Outcome State Fault Refusal :=
  complete (check .add s) (setRes (gadd (operandA s) (operandB s)) s) s

/-- MULX: RES <- xtime(OPA) (R136). -/
def execMulx (s : State) : Host.Outcome State Fault Refusal :=
  complete (check .mulx s) (setRes (xtime (operandA s)) s) s

/-- MULXN: RES <- xtimes(OPA, n), n from the command byte (R137). -/
def execMulxn (n : Nat) (s : State) : Host.Outcome State Fault Refusal :=
  complete (check (.mulxn n) s) (setRes (xtimes (operandA s) n) s) s

/-- MUL: RES <- gmul(OPA, OPB) (R138). -/
def execMul (s : State) : Host.Outcome State Fault Refusal :=
  complete (check .mul s) (setRes (gmul (operandA s) (operandB s)) s) s

end Sys2Proof.Machine
end

