-- ==== Sys2Proof/Machine/Control.lean ====
section
/-! DEFINITION. NOP (40_control.md section 1). -/

namespace Sys2Proof.Machine

open Sys2Proof

/-- NOP: nothing but the completion (R114). -/
def execNop (s : State) : Host.Outcome State Fault Refusal :=
  complete (check .nop s) s s

end Sys2Proof.Machine
end

