-- ==== Sys2Proof/Machine/Inverse.lean ====
section
/-! DEFINITION. The inverse table's commands INV, INITINV (42_inverse_table.md section 2). -/

namespace Sys2Proof.Machine

open Sys2Proof

/-- INV: RES <- INVTAB[OPA] (R154). -/
def execInv (s : State) : Host.Outcome State Fault Refusal :=
  complete (check .inv s) (setRes (tableEntry s.invtab (operandA s)) s) s

/-- INITINV builds the table when it is not valid, and does nothing when it is (R155). -/
def execInitinv (s : State) : Host.Outcome State Fault Refusal :=
  complete (check .initinv s) (if s.invReady then s else setTable buildInv s) s

end Sys2Proof.Machine
end

