-- ==== Sys2Proof/Machine/SBox.lean ====
section
/-! DEFINITION. The S-box generator and its command SBOX (43_sbox.md). -/

namespace Sys2Proof.Machine

open Sys2Proof

/-- 8-bit circular left rotation, for n in 1 to 7 (R170). -/
def rotl8 (b : Byte) (n : Nat) : Byte := (b <<< n) ||| (b >>> (8 - n))

/-- The S-box over an inverse table: the affine transform of the table's entry (R171). It holds no state
(R174). -/
def sbox (T : Table) (a : Byte) : Byte :=
  let b := tableEntry T a
  b ^^^ rotl8 b 1 ^^^ rotl8 b 2 ^^^ rotl8 b 3 ^^^ rotl8 b 4 ^^^ 0x63#8

/-- SBOX: RES <- sbox(OPA) (R173). -/
def execSbox (s : State) : Host.Outcome State Fault Refusal :=
  complete (check .sbox s) (setRes (sbox s.invtab (operandA s)) s) s

end Sys2Proof.Machine
end

