-- ==== Sys2Proof/Machine/KeySchedule.lean ====
section
/-! DEFINITION. The key scheduler and its command KEYEXP (44_key_schedule.md). -/

namespace Sys2Proof.Machine

open Sys2Proof

/-- The round constants RC[0..9] (R190, 10_state.md R26). -/
def roundConst : Nat → Byte
  | 0 => 0x01#8
  | i + 1 => xtime (roundConst i)

/-- Bytewise exclusive or of two words (R191). -/
def xorWord (a b : Word) : Word := Vector.ofFn fun j : Fin 4 => gadd a[j.val] b[j.val]

/-- RotWord: the first byte moves to the end (R192). -/
def rotWord (t : Word) : Word := #v[t[1], t[2], t[3], t[0]]

/-- SubWord (R193). -/
def subWord (T : Table) (t : Word) : Word := Vector.ofFn fun j : Fin 4 => sbox T t[j.val]

/-- The previous word as word `i` takes it: transformed when i is a multiple of 4 (R194). -/
def scheduleStep (T : Table) (i : Nat) (t : Word) : Word :=
  if i % 4 = 0 then xorWord (subWord T (rotWord t)) #v[roundConst (i / 4 - 1), 0x00#8, 0x00#8, 0x00#8] else t

/-- The words `i`, `i + 1`, … of a schedule, as many as `fuel` says, from the four words before word `i`
(R194, its loop). -/
def expandFrom (T : Table) : Nat → Nat → Word → Word → Word → Word → List Word
  | 0, _, _, _, _, _ => []
  | fuel + 1, i, a, b, c, d =>
    let next := xorWord a (scheduleStep T i d)
    next :: expandFrom T fuel (i + 1) b c d next

/-- Word k of a key, the bytes K[4k..4k+3] for k in 0 to 3. -/
def keyWord (K : Block) (k : Fin 4) : Word := Vector.ofFn fun j : Fin 4 => K[4 * k.val + j.val]

/-- The 44 words of a key's schedule, in order (R194). -/
def scheduleWords (T : Table) (K : Block) : List Word :=
  keyWord K 0 :: keyWord K 1 :: keyWord K 2 :: keyWord K 3 ::
    expandFrom T 40 4 (keyWord K 0) (keyWord K 1) (keyWord K 2) (keyWord K 3)

/-- Key expansion: the concatenation of the 44 words (R194). -/
def expand (T : Table) (K : Block) : Schedule :=
  Vector.ofFn fun m : Fin 176 =>
    (((scheduleWords T K)[m.val / 4]?).getD (Vector.replicate 4 0x00#8))[m.val % 4]

/-- What KEYEXP performs: W <- expand(KEY), KEY_VALID <- 1 (R196). -/
def expandKey (s : State) : State := setSchedule (expand s.invtab s.key) s

/-- KEYEXP (R196). -/
def execKeyexp (s : State) : Host.Outcome State Fault Refusal :=
  complete (check .keyexp s) (expandKey s) s

end Sys2Proof.Machine
end

