-- ==== Sys2Proof/Machine/Rounds.lean ====
section
/-! DEFINITION. The encryption round pipeline and its commands ARK, SUB, SHR, MIX, ENC, ENCK
(45_round_pipeline.md). -/

namespace Sys2Proof.Machine

open Sys2Proof

/-- AddRoundKey (R210). -/
def addRoundKey (b rk : Block) : Block := Vector.ofFn fun i : Fin 16 => gadd b[i.val] rk[i.val]

/-- SubBytes (R211). -/
def subBytes (T : Table) (b : Block) : Block := Vector.ofFn fun i : Fin 16 => sbox T b[i.val]

/-- ShiftRows: the byte at row r, column c comes from row r, column (c + r) mod 4 (R212). -/
def shiftRows (b : Block) : Block :=
  Vector.ofFn fun i : Fin 16 => b[i.val % 4 + 4 * ((i.val / 4 + i.val % 4) % 4)]

/-- One column of MixColumns, coefficients (2, 3, 1, 1) rotated right by the row (R213). -/
def mixColumn (a0 a1 a2 a3 : Byte) : Word :=
  #v[gmul 0x02#8 a0 ^^^ gmul 0x03#8 a1 ^^^ a2 ^^^ a3,
     a0 ^^^ gmul 0x02#8 a1 ^^^ gmul 0x03#8 a2 ^^^ a3,
     a0 ^^^ a1 ^^^ gmul 0x02#8 a2 ^^^ gmul 0x03#8 a3,
     gmul 0x03#8 a0 ^^^ a1 ^^^ a2 ^^^ gmul 0x02#8 a3]

/-- MixColumns: every column c, the bytes 4c..4c+3, alone (R213). -/
def mixColumns (b : Block) : Block :=
  Vector.ofFn fun i : Fin 16 =>
    (mixColumn b[4 * (i.val / 4)] b[4 * (i.val / 4) + 1] b[4 * (i.val / 4) + 2]
      b[4 * (i.val / 4) + 3])[i.val % 4]

/-- Round r of the cipher, r in 1 to 10: round 10 does not mix columns (R214). -/
def cipherRound (T : Table) (w : Schedule) (r : Nat) (b : Block) : Block :=
  let shifted := shiftRows (subBytes T b)
  addRoundKey (if r = 10 then shifted else mixColumns shifted) (roundKey w r)

/-- The state after round r; round 0 is the initial AddRoundKey (R214). -/
def snapshot (T : Table) (w : Schedule) (P : Block) : Nat → Block
  | 0 => addRoundKey P (roundKey w 0)
  | r + 1 => cipherRound T w (r + 1) (snapshot T w P r)

/-- The cipher's result, the state after round 10 (R214). -/
def cipher (T : Table) (w : Schedule) (P : Block) : Block := snapshot T w P 10

/-- The eleven snapshots of an encryption (R214, 10_state.md R28). -/
def snapshots (T : Table) (w : Schedule) (P : Block) : Snapshots :=
  Vector.ofFn fun r : Fin 11 => snapshot T w P r.val

/-- What ENC performs (R220). -/
def encrypt (s : State) : State :=
  setCipher (cipher s.invtab s.w s.stateReg) (snapshots s.invtab s.w s.stateReg) s

/-- ARK: STATE <- AddRoundKey(STATE, RK[RKSEL]) (R216). -/
def execArk (s : State) : Host.Outcome State Fault Refusal :=
  complete (check .ark s) (setStateReg (addRoundKey s.stateReg (operandRoundKey s)) s) s

/-- SUB: STATE <- SubBytes(STATE) (R217). -/
def execSub (s : State) : Host.Outcome State Fault Refusal :=
  complete (check .sub s) (setStateReg (subBytes s.invtab s.stateReg) s) s

/-- SHR: STATE <- ShiftRows(STATE) (R218). -/
def execShr (s : State) : Host.Outcome State Fault Refusal :=
  complete (check .shr s) (setStateReg (shiftRows s.stateReg) s) s

/-- MIX: STATE <- MixColumns(STATE) (R219). -/
def execMix (s : State) : Host.Outcome State Fault Refusal :=
  complete (check .mix s) (setStateReg (mixColumns s.stateReg) s) s

/-- ENC (R220). -/
def execEnc (s : State) : Host.Outcome State Fault Refusal :=
  complete (check .enc s) (encrypt s) s

/-- ENCK: the key expansion, then ENC, now with KEY_VALID = 1 (R221). -/
def execEnck (s : State) : Host.Outcome State Fault Refusal :=
  complete (check .enck s) (encrypt (expandKey s)) s

end Sys2Proof.Machine
end

