-- ==== Sys2Proof/Machine/Dispatch.lean ====
section
/-! DEFINITION. The completion step of each command: one arm per constructor of `Instr`. -/

namespace Sys2Proof.Machine

open Sys2Proof

/-- The completion of the legal command `i` in state `s` (40_control.md R112). -/
def exec (i : Instr) (s : State) : Host.Outcome State Fault Refusal :=
  match i with
  | .nop => Sys2Proof.Machine.execNop s
  | .add => Sys2Proof.Machine.execAdd s
  | .mulx => Sys2Proof.Machine.execMulx s
  | .mulxn n => Sys2Proof.Machine.execMulxn n s
  | .mul => Sys2Proof.Machine.execMul s
  | .inv => Sys2Proof.Machine.execInv s
  | .sbox => Sys2Proof.Machine.execSbox s
  | .initinv => Sys2Proof.Machine.execInitinv s
  | .keyexp => Sys2Proof.Machine.execKeyexp s
  | .ark => Sys2Proof.Machine.execArk s
  | .sub => Sys2Proof.Machine.execSub s
  | .shr => Sys2Proof.Machine.execShr s
  | .mix => Sys2Proof.Machine.execMix s
  | .enc => Sys2Proof.Machine.execEnc s
  | .enck => Sys2Proof.Machine.execEnck s

end Sys2Proof.Machine
end

