-- ==== Sys2Proof/Machine/Engine.lean ====
section
/-! DEFINITION. The agents' moves: the engine's completion step and one event of the agenda
(40_control.md section 1). -/

namespace Sys2Proof.Machine

open Sys2Proof

/-- The completion of the byte `c` in flight: a legal one as its command, an illegal one as the error
ILLEGAL_CMD (40_control.md R112, 60_exceptions.md R242, R246). -/
def completeByte (c : Byte) (s : State) : Host.Outcome State Fault Refusal :=
  match decode c with
  | .ok i => exec i s
  | .illegal _ => .next (errorEntry .illegalCmd s)

/-- The engine's step. With no command in flight it has none, and nothing changes (40_control.md R110). -/
def engineStep (s : State) : Host.Outcome State Fault Refusal :=
  match s.pending with
  | none => .next s
  | some c => completeByte c s

/-- One move of the agent that the event names. -/
def runEvent (e : Event) (s : State) : Host.Outcome State Fault Refusal :=
  match e with
  | .read addr => .next (memRead addr s)
  | .write addr v => .next (memWrite addr v s)
  | .complete => engineStep s
  | .reset => .next (resetStep s)

/-- The next move: the first event of the agenda, which is then spent. With an empty agenda the engine moves
alone, so a command in flight always completes (40_control.md R113). -/
def nextMove (s : State) : Host.Outcome State Fault Refusal :=
  match s.agenda with
  | [] => engineStep s
  | e :: rest => runEvent e (setAgenda rest s)

/-- The byte `c` issued by a write to CMD and the engine next to move: the agenda gets the engine's move in
front, or stays empty. -/
def placeCommand (c : Byte) (s : State) : State :=
  let issued := issue c s
  match s.agenda with
  | [] => issued
  | _ :: _ => setAgenda (.complete :: s.agenda) issued

end Sys2Proof.Machine
end

