-- ==== Sys2Proof/Machine/Step.lean ====
section
/-! DEFINITION. One step of the machine, and a command placed to be the next one completed. -/

namespace Sys2Proof.Machine

open Sys2Proof

/-- One step: one move of one agent (40_control.md R110). -/
def step (s : State) : Host.Outcome State Fault Refusal := nextMove s

/-- `s` with the command of a row of spec/opcode_table.json issued, so that the very next step completes it.
It stands for the host's write to CMD (notes/assumptions/4.md). -/
def State.withFetchWord (s : State) (nbits w : Nat) : State := placeCommand (tableByte nbits w) s

end Sys2Proof.Machine
end

