-- ==== Sys2Proof/Safety.lean ====
section
/-! DEFINITION. What claims about the machine are stated with: the invariant of the state, and which runs
are safe. -/

namespace Sys2Proof.Machine

open Sys2Proof

/-- A run that has not met the source's fatal precondition failure: no command has been issued that needed
the inverse table before it was valid (90_conflicts.md C5, 93_implementation_defined.md U2). -/
def Safe (s : State) : Prop := s.fatal = false

/-- No command is in flight. -/
def Idle (s : State) : Prop := s.pending = none

/-- The relations between the pieces of state that the spec promises. -/
structure Consistent (s : State) : Prop where
  /-- A valid inverse table is the builder's (10_state.md R25). -/
  tableValid : s.invReady = true → s.invtab = buildInv
  /-- A preloaded table is valid from reset and stays so (10_state.md R25, R31). -/
  romReady : s.params.invPreloaded = true → s.invReady = true
  /-- The fatal precondition failure cannot occur with a preloaded table (60_exceptions.md R243). -/
  romSafe : s.params.invPreloaded = true → s.fatal = false
  /-- A valid schedule is the one expanded from the key (10_state.md R24, R31). -/
  scheduleValid : s.keyValid = true → s.w = expand s.invtab s.key
  /-- A schedule is expanded with a valid table only (60_exceptions.md R243). -/
  scheduleNeedsTable : s.keyValid = true → s.invReady = true
  /-- ERRCODE holds NONE unless an error is reported (10_state.md R32). -/
  noErrorCode : s.err = false → s.errcode = 0x00#8
  /-- A reported error has one of the four codes (60_exceptions.md R241). -/
  errorCode : s.err = true → ∃ e : ErrCode, s.errcode = errByte e
  /-- An error is reported at a completion (10_state.md R31). -/
  errorDone : s.err = true → s.done = true
  /-- BUSY = 1 implies DONE = 0 and ERR = 0 (10_state.md R31). -/
  busyFlags : busy s = true → s.done = false ∧ s.err = false
  /-- The byte in flight is the one CMD holds (40_control.md R111, R116). -/
  cmdPending : ∀ c, s.pending = some c → s.cmd = c
  /-- PHASE holds Initial or Done between an encryption's issue and its completion and at rest
  (10_state.md R33). -/
  phaseLegal : s.phase = 0x00#8 ∨ s.phase = 0x0B#8

end Sys2Proof.Machine
end

