-- ==== Sys2Proof/Certificates/Slice0/Obligations.lean ====
section
/-! DEFINITION. The statements about the machine, for the provers. Each names the rule of spec/ that it
formalises. An equation `exec i s = .next t` says that the command completes, gives every field of the next
state, and so leaves every field that it does not write as it was; the core has no memory besides its
registers. Statements about `step` name the next move by the first event of `agenda`, the model's way of
saying which agent moves next (notes/assumptions/3.md); the byte that a read gives the host is the first of
`returned` (notes/assumptions/8.md). -/

open Sys2Proof Sys2Proof.Machine

/-! ### Encoding -/

/-- Decode and encode agree: no bit of an encoding is dropped (30_encoding.md R94, R98). -/
def Obligations.DecodeOfEncode : Prop :=
  ∀ i : Instr, wellFormed i = true → decode (encode i) = .ok i

/-- A byte is the encoding of at most one command: what decodes to a command is that command's byte
(30_encoding.md R94). -/
def Obligations.LegalByteIsOneCommand : Prop :=
  ∀ (c : Byte) (i : Instr), decode c = .ok i → wellFormed i = true ∧ encode i = c

/-- R95: which bytes are legal, that they are 22 in all (14 single codes and 8 of MULXN), and that the
other 234 are illegal. -/
def Obligations.LegalBytes : Prop :=
  (∀ c : Byte, legal c = true ↔
    c.getLsbD 7 = false ∧ c.extractLsb' 0 4 ≠ 0xF#4 ∧
      (c.extractLsb' 0 4 = 0x3#4 ∨ c.extractLsb' 4 3 = 0b000#3)) ∧
  (∀ c : Byte, legal c = true ↔ c ∈ ([0x00, 0x01, 0x02, 0x04, 0x05, 0x06, 0x07, 0x08, 0x09, 0x0A, 0x0B,
    0x0C, 0x0D, 0x0E, 0x03, 0x13, 0x23, 0x33, 0x43, 0x53, 0x63, 0x73] : List Byte)) ∧
  ((List.range 256).filter fun n => legal (BitVec.ofNat 8 n)).length = 22 ∧
  ((List.range 256).filter fun n => !legal (BitVec.ofNat 8 n)).length = 234

/-- R98: the decoder is total, rejects exactly the illegal bytes, and selects the command of a legal byte by
its field OP, with the field N as MULXN's count. -/
def Obligations.DecoderSelectsByOp : Prop :=
  ∀ c : Byte,
    (legal c = false → ∃ why, decode c = .illegal why) ∧
    (legal c = true →
      decode c = .ok
        (match (c.extractLsb' 0 4).toNat with
          | 0x0 => .nop | 0x1 => .add | 0x2 => .mulx | 0x3 => .mulxn (c.extractLsb' 4 3).toNat
          | 0x4 => .mul | 0x5 => .inv | 0x6 => .sbox | 0x7 => .initinv | 0x8 => .keyexp
          | 0x9 => .ark | 0xA => .sub | 0xB => .shr | 0xC => .mix | 0xD => .enc | _ => .enck))

/-- Sanity: bytes written out from the opcode map (30_encoding.md R94) decode to what they stand for, and
reserved ones are rejected (R97). -/
def Obligations.WrittenBytesDecode : Prop :=
  decode 0b00000000#8 = .ok .nop ∧ decode 0b00000100#8 = .ok .mul ∧
  decode 0b00110011#8 = .ok (.mulxn 3) ∧ decode 0b01110011#8 = .ok (.mulxn 7) ∧
  decode 0b00000111#8 = .ok .initinv ∧ decode 0b00000110#8 = .ok .sbox ∧
  decode 0b00001000#8 = .ok .keyexp ∧ decode 0b00001110#8 = .ok .enck ∧
  decode 0b00001111#8 = .illegal .reservedOp ∧ decode 0b00010010#8 = .illegal .countNotZero ∧
  decode 0b10000011#8 = .illegal .reservedBit

/-! ### The step -/

/-- A step runs the decoded command: when the byte in flight decodes to `i` and the engine moves, alone or
by the agenda, the step is `exec i` (40_control.md R112). With no command in flight the engine has no step of
its own, and nothing but the agenda changes (R110). The agenda is the model's, notes/assumptions/3.md. -/
def Obligations.StepRunsPendingCommand : Prop :=
  (∀ (s : State) (c : Byte) (i : Instr), s.pending = some c → decode c = .ok i →
    (s.agenda = [] → step s = exec i s) ∧
    (∀ rest, s.agenda = .complete :: rest → step s = exec i { s with agenda := rest })) ∧
  (∀ s : State, s.pending = none →
    (s.agenda = [] → step s = .next s) ∧
    (∀ rest, s.agenda = .complete :: rest → step s = .next { s with agenda := rest }))

/-- R96, R242: an illegal byte is issued like any other (BUSY is set and CMD holds it) and completes with
ILLEGAL_CMD and no effect but its issue's. -/
def Obligations.IllegalByteIsReported : Prop :=
  ∀ (s : State) (c : Byte) (rest : List Event),
    (c.getLsbD 7 = true ∨ c.extractLsb' 0 4 = 0xF#4 ∨
      (c.extractLsb' 4 3 ≠ 0#3 ∧ c.extractLsb' 0 4 ≠ 0x3#4)) →
    s.pending = none → s.agenda = .write 0x23#8 c :: .complete :: rest →
    ∃ t, step s = .next t ∧ busy t = true ∧ t.cmd = c ∧
      step t = .next { s with
        cmd := c, done := true, err := true, errcode := 0x01#8, wdrop := false, pending := none,
        agenda := rest }

/-- The core never traps, vectors or halts: every step of every state gives a next state (60_exceptions.md
R240). -/
def Obligations.StepNeverStops : Prop := ∀ s : State, ∃ t, step s = .next t

/-- Completion ends every command: DONE is 1 and nothing is in flight (40_control.md R112). -/
def Obligations.EveryCommandCompletes : Prop :=
  ∀ (i : Instr) (s : State), ∃ t, exec i s = .next t ∧ t.done = true ∧ busy t = false

/-! ### Invariants -/

/-- The state after reset meets the invariant, for both kinds of part (10_state.md R41). Its clause on the
record `fatal` is the model's choice, notes/assumptions/6.md. -/
def Obligations.ResetIsConsistent : Prop := Consistent State.reset ∧ ∀ p : Params, Consistent (State.resetFor p)

/-- Every step keeps the invariant, from every state that meets it: a valid table is the builder's, a valid
schedule is the key's (10_state.md R24, R25), ERRCODE holds a legal value (R32), BUSY excludes DONE and ERR
(R31), PHASE holds a legal value (R33). Its clause on the record `fatal` is the model's choice,
notes/assumptions/6.md. -/
def Obligations.StepKeepsConsistent : Prop := ∀ s t : State, Consistent s → step s = .next t → Consistent t

/-- INVTAB is read-only once it is valid: until a reset it keeps its contents and stays valid (10_state.md
R25). -/
def Obligations.ValidTableIsReadOnly : Prop :=
  ∀ s t : State, s.invReady = true → (∀ rest, s.agenda ≠ .reset :: rest) → step s = .next t →
    t.invtab = s.invtab ∧ t.invReady = true

/-- KEY changes only by a host write that the core accepts, which clears KEY_VALID, or by reset (10_state.md
R22, R41). -/
def Obligations.KeyChangesOnlyByHost : Prop :=
  ∀ s t : State, step s = .next t → t.key ≠ s.key →
    (∃ rest, s.agenda = .reset :: rest) ∨
    (∃ a v rest, s.agenda = .write a v :: rest ∧ 0x10 ≤ a.toNat ∧ a.toNat ≤ 0x1F ∧
      s.pending = none ∧ t.keyValid = false)

/-- W changes only by KEYEXP and ENCK, which write the expansion of KEY, or by reset (10_state.md R24,
R41). -/
def Obligations.ScheduleChangesOnlyByExpansion : Prop :=
  ∀ s t : State, step s = .next t → t.w ≠ s.w →
    (∃ rest, s.agenda = .reset :: rest) ∨
    ((s.pending = some 0x08#8 ∨ s.pending = some 0x0E#8) ∧ t.w = expand s.invtab s.key ∧
      t.keyValid = true)

/-- No command writes KEY, OPA, OPB, CMD, RKSEL or OBSSEL (40_control.md R116), nor what the model holds of
the host's side. -/
def Obligations.CommandsKeepHostRegisters : Prop :=
  ∀ (i : Instr) (s t : State), exec i s = .next t →
    t.key = s.key ∧ t.opa = s.opa ∧ t.opb = s.opb ∧ t.cmd = s.cmd ∧ t.rksel = s.rksel ∧
    t.obssel = s.obssel ∧ t.wdrop = s.wdrop ∧ t.params = s.params ∧ t.agenda = s.agenda ∧
    t.returned = s.returned ∧ t.draws = s.draws

/-- The write set of every command as addresses (40_control.md R115). -/
def Obligations.WriteSetAddresses : Prop :=
  ∀ a : Byte,
    (∀ i, i = .nop ∨ i = .initinv → inWriteSet i (locate a) = false) ∧
    (∀ i n, i = .add ∨ i = .mulx ∨ i = .mulxn n ∨ i = .mul ∨ i = .inv ∨ i = .sbox →
      (inWriteSet i (locate a) = true ↔ a = 0x22#8)) ∧
    (inWriteSet .keyexp (locate a) = true ↔ 0x40 ≤ a.toNat ∧ a.toNat ≤ 0x4F) ∧
    (∀ i, i = .ark ∨ i = .sub ∨ i = .shr ∨ i = .mix →
      (inWriteSet i (locate a) = true ↔ a.toNat ≤ 0x0F)) ∧
    (inWriteSet .enc (locate a) = true ↔
      a.toNat ≤ 0x0F ∨ a = 0x26#8 ∨ (0x50 ≤ a.toNat ∧ a.toNat ≤ 0x5F)) ∧
    (inWriteSet .enck (locate a) = true ↔
      a.toNat ≤ 0x0F ∨ a = 0x26#8 ∨ (0x40 ≤ a.toNat ∧ a.toNat ≤ 0x4F) ∨
        (0x50 ≤ a.toNat ∧ a.toNat ≤ 0x5F))

/-- The frame of every command: at its completion every bus address outside its write set, STATUS and
ERRCODE apart, reads as before, and the state behind the windows and the table changes only by the commands
that R115 names (40_control.md R115, 60_exceptions.md R248). -/
def Obligations.CommandsStayInWriteSet : Prop :=
  ∀ (i : Instr) (s t : State), exec i s = .next t →
    (∀ a : Byte, inWriteSet i (locate a) = false → a ≠ 0x24#8 → a ≠ 0x25#8 →
      regRead t (locate a) = regRead s (locate a)) ∧
    (i ≠ .keyexp → i ≠ .enck → t.w = s.w ∧ t.keyValid = s.keyValid) ∧
    (i ≠ .enc → i ≠ .enck → t.obs = s.obs ∧ t.phase = s.phase) ∧
    (i ≠ .initinv → t.invtab = s.invtab ∧ t.invReady = s.invReady)

/-- The result of a scalar command depends on OPA, OPB and the table alone: two states that agree on these
give the same RES, whatever else they hold (41_field_arithmetic.md, 43_sbox.md R174, 40_control.md R116). -/
def Obligations.ScalarResultReadsOperandsOnly : Prop :=
  ∀ (i : Instr) (s s' t t' : State), writesRes i = true → exec i s = .next t → exec i s' = .next t' →
    s.opa = s'.opa → s.opb = s'.opb → s.invtab = s'.invtab →
    s.invReady = true → s'.invReady = true → t.res = t'.res

/-! ### Errors -/

/-- R247, R248: a command whose check reports an error writes ERR, ERRCODE, DONE and PENDING and changes no
other state of the core, and so does an illegal byte. Of the model's own record `fatal` this says nothing. -/
def Obligations.ErrorsArePrecise : Prop :=
  (∀ (i : Instr) (s : State) (e : ErrCode), check i s = some e →
    ∃ t, exec i s = .next t ∧
      t = { s with
        err := true, errcode := errByte e, done := true, pending := none, fatal := t.fatal }) ∧
  (∀ (c : Byte) (s : State), legal c = false →
    ∃ t, completeByte c s = .next t ∧
      t = { s with
        err := true, errcode := 0x01#8, done := true, pending := none, fatal := t.fatal })

/-- The model's record of the source's fatal precondition failure is set exactly when a command reports
INVTAB_NOT_INIT, and no step clears it (90_conflicts.md C5, 60_exceptions.md R243). That the record exists and
lasts is the model's choice, notes/assumptions/6.md. -/
def Obligations.FatalFailureIsRecorded : Prop :=
  (∀ (i : Instr) (s t : State), exec i s = .next t →
    (t.fatal = true ↔ s.fatal = true ∨ check i s = some .invtabNotInit)) ∧
  (∀ s t : State, Safe t → step s = .next t → Safe s)

/-- A reported error stays until it is cleared: while no command is in flight ERR, ERRCODE and DONE change only
by an issue or a reset (60_exceptions.md R249, 10_state.md R31). -/
def Obligations.ErrorStaysUntilIssueOrReset : Prop :=
  ∀ s t : State, s.pending = none → step s = .next t →
    (t.err ≠ s.err ∨ t.errcode ≠ s.errcode ∨ t.done ≠ s.done) →
    (∃ v rest, s.agenda = .write 0x23#8 v :: rest) ∨ ∃ rest, s.agenda = .reset :: rest

/-- R246: exactly one error is reported, the first of ILLEGAL_CMD, INVTAB_NOT_INIT, BAD_INDEX, NO_KEY, with
the codes of R241; a command that fails no check reports none. -/
def Obligations.FirstFailingCheckIsReported : Prop :=
  (∀ (s : State) (c : Byte), legal c = false →
    ∃ t, completeByte c s = .next t ∧ t.err = true ∧ t.errcode = 0x01#8) ∧
  (∀ (s : State) (i : Instr),
    i = .inv ∨ i = .sbox ∨ i = .keyexp ∨ i = .sub ∨ i = .enc ∨ i = .enck →
    s.invReady = false → ∃ t, exec i s = .next t ∧ t.err = true ∧ t.errcode = 0x02#8) ∧
  (∀ s : State, 10 < s.rksel.toNat →
    ∃ t, exec .ark s = .next t ∧ t.err = true ∧ t.errcode = 0x04#8) ∧
  (∀ s : State, s.rksel.toNat ≤ 10 → s.keyValid = false →
    ∃ t, exec .ark s = .next t ∧ t.err = true ∧ t.errcode = 0x03#8) ∧
  (∀ s : State, s.invReady = true → s.keyValid = false →
    ∃ t, exec .enc s = .next t ∧ t.err = true ∧ t.errcode = 0x03#8) ∧
  (∀ (s : State) (i : Instr),
    (i = .inv ∨ i = .sbox ∨ i = .keyexp ∨ i = .sub ∨ i = .enc ∨ i = .enck → s.invReady = true) →
    (i = .ark → s.rksel.toNat ≤ 10) → (i = .ark ∨ i = .enc → s.keyValid = true) →
    ∃ t, exec i s = .next t ∧ t.err = s.err ∧ t.errcode = s.errcode)

/-! ### NOP and the scalar commands -/

/-- R114: NOP does nothing but complete, reports no error, and its issue clears ERR, ERRCODE and WDROP and no
other state; with ERR = 1 and ERRCODE = 0x03 it leaves ERR = 0, ERRCODE = 0x00, DONE = 1. -/
def Obligations.NopOnlyCompletes : Prop :=
  decode 0x00#8 = .ok .nop ∧
  (∀ s : State, exec .nop s = .next { s with done := true, pending := none }) ∧
  (∀ s : State, check .nop s = none) ∧
  (∀ (s : State) (rest : List Event), s.pending = none →
    s.agenda = .write 0x23#8 0x00#8 :: .complete :: rest →
    ∃ t, step s = .next t ∧
      step t = .next { s with
        cmd := 0x00#8, done := true, err := false, errcode := 0x00#8, wdrop := false, agenda := rest })

/-- R135, R130: ADD completes in every state with RES = OPA ⊕ OPB and writes nothing else; the sum of a byte
with itself is 0, with 0 the byte, and 0x57 ⊕ 0x83 = 0xD4. -/
def Obligations.AddResult : Prop :=
  decode 0x01#8 = .ok .add ∧
  (∀ s : State, exec .add s =
    .next { s with res := s.opa ^^^ s.opb, done := true, pending := none }) ∧
  (∀ a b : Byte, gadd a b = a ^^^ b) ∧ (∀ a : Byte, gadd a a = 0x00#8) ∧
  (∀ a : Byte, gadd a 0x00#8 = a) ∧ gadd 0x57#8 0x83#8 = 0xD4#8

/-- R136, R131: MULX completes in every state with RES = xtime(OPA) and writes nothing else; the shift is
truncated to 8 bits, which is the 9-bit sum with 0x11B, whose bit 8 is 0. -/
def Obligations.MulxResult : Prop :=
  decode 0x02#8 = .ok .mulx ∧
  (∀ s : State, exec .mulx s = .next { s with
    res := (s.opa <<< 1) ^^^ (if s.opa.getLsbD 7 = true then 0x1B#8 else 0x00#8),
    done := true, pending := none }) ∧
  (∀ a : Byte, xtime a = (a <<< 1) ^^^ (if a.getLsbD 7 = true then 0x1B#8 else 0x00#8)) ∧
  (∀ a : Byte, (xtime a).zeroExtend 9 =
    (a.zeroExtend 9 <<< 1) ^^^ (if a.getLsbD 7 = true then 0x11B#9 else 0x000#9)) ∧
  (∀ a : Byte, ((xtime a).zeroExtend 9).getLsbD 8 = false) ∧
  xtime 0x80#8 = 0x1B#8 ∧ xtime 0xFF#8 = 0xE5#8 ∧ xtime 0x00#8 = 0x00#8 ∧ xtime 0x8D#8 = 0x01#8 ∧
  xtime 0x57#8 = 0xAE#8

/-- R137, R132: MULXN n completes in every state with RES = xtime applied n times to OPA and writes nothing
else; n = 0 gives OPA, n = 1 what MULX gives. A byte gives n in 0 to 7 only. -/
def Obligations.MulxnResult : Prop :=
  (∀ n : Nat, n ≤ 7 → decode (BitVec.ofNat 8 (16 * n + 3)) = .ok (.mulxn n)) ∧
  (∀ (c : Byte) (n : Nat), decode c = .ok (.mulxn n) → n ≤ 7) ∧
  (∀ (n : Nat) (s : State), exec (.mulxn n) s =
    .next { s with res := xtimes s.opa n, done := true, pending := none }) ∧
  (∀ a : Byte, xtimes a 0 = a) ∧ (∀ (a : Byte) (n : Nat), xtimes a (n + 1) = xtime (xtimes a n)) ∧
  (∀ s : State, exec (.mulxn 1) s = exec .mulx s) ∧
  xtimes 0x01#8 7 = 0x80#8 ∧ xtimes 0x80#8 7 = 0x9A#8 ∧ xtimes 0x57#8 3 = 0x8E#8

/-- R138: MUL completes in every state with RES = gmul(OPA, OPB) and writes nothing else. The product is
written out bit by bit of OPB as R133 gives it. -/
def Obligations.MulResult : Prop :=
  decode 0x04#8 = .ok .mul ∧
  (∀ s : State, exec .mul s =
    .next { s with res := gmul s.opa s.opb, done := true, pending := none }) ∧
  (∀ a b : Byte, gmul a b =
    (if b.getLsbD 0 = true then xtimes a 0 else 0x00#8) ^^^
    (if b.getLsbD 1 = true then xtimes a 1 else 0x00#8) ^^^
    (if b.getLsbD 2 = true then xtimes a 2 else 0x00#8) ^^^
    (if b.getLsbD 3 = true then xtimes a 3 else 0x00#8) ^^^
    (if b.getLsbD 4 = true then xtimes a 4 else 0x00#8) ^^^
    (if b.getLsbD 5 = true then xtimes a 5 else 0x00#8) ^^^
    (if b.getLsbD 6 = true then xtimes a 6 else 0x00#8) ^^^
    (if b.getLsbD 7 = true then xtimes a 7 else 0x00#8)) ∧
  (∀ a : Byte, gmul a 0x00#8 = 0x00#8 ∧ gmul 0x00#8 a = 0x00#8 ∧ gmul a 0x01#8 = a) ∧
  gmul 0xFF#8 0xFF#8 = 0x13#8 ∧ gmul 0x02#8 0x80#8 = 0x1B#8 ∧ gmul 0x03#8 0xF6#8 = 0x01#8 ∧
  gmul 0x02#8 0x03#8 = 0x06#8 ∧ gmul 0x57#8 0x83#8 = 0xC1#8

/-- R154: with a valid table INV completes with RES = INVTAB[OPA] and writes nothing else; otherwise it
reports INVTAB_NOT_INIT and RES is unchanged. The corner values are those of the builder's table. -/
def Obligations.InvResult : Prop :=
  decode 0x05#8 = .ok .inv ∧
  (∀ s : State, s.invReady = true → exec .inv s =
    .next { s with res := s.invtab[s.opa.toNat]'s.opa.isLt, done := true, pending := none }) ∧
  (∀ s : State, s.invReady = false →
    ∃ t, exec .inv s = .next t ∧ t.err = true ∧ t.errcode = 0x02#8 ∧ t.res = s.res) ∧
  tableEntry buildInv 0x00#8 = 0x00#8 ∧ tableEntry buildInv 0x01#8 = 0x01#8 ∧
  tableEntry buildInv 0x03#8 = 0xF6#8 ∧ tableEntry buildInv 0xF6#8 = 0x03#8 ∧
  tableEntry buildInv 0x53#8 = 0xCA#8 ∧ gmul 0x53#8 0xCA#8 = 0x01#8

/-- R155: INITINV builds the table and makes it valid when it is not, and changes nothing but DONE when it
is; it reports no error. Issued after reset of a part without a ROM (STATUS 0x00) it leaves STATUS 0x0A. -/
def Obligations.InitinvResult : Prop :=
  decode 0x07#8 = .ok .initinv ∧
  (∀ s : State, s.invReady = false → exec .initinv s =
    .next { s with invtab := buildInv, invReady := true, done := true, pending := none }) ∧
  (∀ s : State, s.invReady = true → exec .initinv s = .next { s with done := true, pending := none }) ∧
  (∀ s : State, check .initinv s = none) ∧
  statusByte (State.resetFor ⟨false⟩) = 0x00#8 ∧
  (∃ t, step ((State.resetFor ⟨false⟩).withFetchWord 8 0x07) = .next t ∧ statusByte t = 0x0A#8)

/-- R173, R171: with a valid table SBOX completes with RES the affine transform of INVTAB[OPA] and writes
nothing else; otherwise it reports INVTAB_NOT_INIT and RES is unchanged. The corner values are those of the
builder's table. -/
def Obligations.SboxResult : Prop :=
  decode 0x06#8 = .ok .sbox ∧
  (∀ s : State, s.invReady = true → exec .sbox s =
    .next { s with res := sbox s.invtab s.opa, done := true, pending := none }) ∧
  (∀ s : State, s.invReady = false →
    ∃ t, exec .sbox s = .next t ∧ t.err = true ∧ t.errcode = 0x02#8 ∧ t.res = s.res) ∧
  (∀ (T : Table) (a : Byte), sbox T a =
    tableEntry T a ^^^ (tableEntry T a).rotateLeft 1 ^^^ (tableEntry T a).rotateLeft 2 ^^^
      (tableEntry T a).rotateLeft 3 ^^^ (tableEntry T a).rotateLeft 4 ^^^ 0x63#8) ∧
  sbox buildInv 0x00#8 = 0x63#8 ∧ sbox buildInv 0xFF#8 = 0x16#8 ∧ sbox buildInv 0x01#8 = 0x7C#8 ∧
  sbox buildInv 0x53#8 = 0xED#8

/-! ### The field and the tables -/

/-- The laws of multiplication that the source states or that follow from its definition at once: it is
commutative, distributes over addition, has 1 and 0 as the byte and nothing, and multiplies by 2ⁿ as n
doublings do (41_field_arithmetic.md R134). -/
def Obligations.GmulLawsOfTheSource : Prop :=
  (∀ a b : Byte, gmul a b = gmul b a) ∧
  (∀ a b c : Byte, gmul a (gadd b c) = gadd (gmul a b) (gmul a c)) ∧
  (∀ a : Byte, gmul a 0x01#8 = a ∧ gmul a 0x00#8 = 0x00#8) ∧
  (∀ (a : Byte) (n : Nat), n ≤ 7 → xtimes a n = gmul a (BitVec.ofNat 8 (2 ^ n))) ∧
  (∀ a : Byte, xtime a = gmul a 0x02#8)

/-- Multiplication is associative (41_field_arithmetic.md R134, there from general knowledge). -/
def Obligations.GmulIsAssociative : Prop :=
  ∀ a b c : Byte, gmul (gmul a b) c = gmul a (gmul b c)

/-- A product is 0 only where a factor is, and every nonzero byte has exactly one inverse
(41_field_arithmetic.md R134). -/
def Obligations.GmulHasInverses : Prop :=
  (∀ a b : Byte, gmul a b = 0x00#8 ↔ a = 0x00#8 ∨ b = 0x00#8) ∧
  (∀ a : Byte, a ≠ 0x00#8 → ∃! b : Byte, gmul a b = 0x01#8)

/-- R152: the builder's table is the ROM's contents, entry by entry. -/
def Obligations.RomIsTheBuildersTable : Prop := buildInv = invRom

/-- The builder's loop runs exactly 255 iterations (42_inverse_table.md R151). Its own test stops it, not its
bound: a greater bound changes nothing, so `buildInv` is what the unbounded loop gives. With a bound k up to
255 it has run k iterations, no fewer: it has written 0x03^m := 0xF6^m for m < k and nothing else. The walks
first meet after 255 iterations, both at 1, having met the 255 nonzero bytes once each. -/
def Obligations.BuilderRuns255Iterations : Prop :=
  (∀ (n : Nat) (T : Table), buildLoop (255 + n) T 0x01#8 0x01#8 = buildLoop 255 T 0x01#8 0x01#8) ∧
  (∀ n : Nat, buildLoop (255 + n) (Vector.replicate 256 0x00#8) 0x01#8 0x01#8 = buildInv) ∧
  (∀ (T : Table) (k m : Nat), k ≤ 255 → m < 255 →
    tableEntry (buildLoop k T 0x01#8 0x01#8) ((fun i => gmul i 0x03#8)^[m] 0x01#8) =
      if m < k then (fun j => gmul j 0xF6#8)^[m] 0x01#8
      else tableEntry T ((fun i => gmul i 0x03#8)^[m] 0x01#8)) ∧
  (∀ (T : Table) (k : Nat), tableEntry (buildLoop k T 0x01#8 0x01#8) 0x00#8 = tableEntry T 0x00#8) ∧
  (∀ k : Nat, 1 ≤ k → k < 255 →
    (fun i => gmul i 0x03#8)^[k] 0x01#8 ≠ (fun j => gmul j 0xF6#8)^[k] 0x01#8) ∧
  (fun i => gmul i 0x03#8)^[255] 0x01#8 = 0x01#8 ∧
  (fun j => gmul j 0xF6#8)^[255] 0x01#8 = 0x01#8 ∧
  ((List.range 255).map fun k => (fun i => gmul i 0x03#8)^[k] 0x01#8).Nodup ∧
  (∀ a : Byte, a ≠ 0x00#8 → ∃ k : Nat, k < 255 ∧ (fun i => gmul i 0x03#8)^[k] 0x01#8 = a)

/-- R153: INVTAB maps every nonzero byte to its inverse and 0 to 0, is a bijection and its own inverse, and
fixes 0 and 1 only. Building it twice gives the same table, since the builder has no input. -/
def Obligations.TableHoldsInverses : Prop :=
  (∀ a : Byte, a ≠ 0x00#8 → gmul a (tableEntry buildInv a) = 0x01#8) ∧
  tableEntry buildInv 0x00#8 = 0x00#8 ∧
  Function.Bijective (tableEntry buildInv) ∧
  (∀ a : Byte, tableEntry buildInv (tableEntry buildInv a) = a) ∧
  (∀ a : Byte, tableEntry buildInv a = a ↔ a = 0x00#8 ∨ a = 0x01#8)

/-- The S-box over the builder's table is a bijection of the bytes, with no fixed point and no byte sent to
its complement (43_sbox.md R172). -/
def Obligations.SboxIsBijective : Prop :=
  Function.Bijective (sbox buildInv) ∧
  (∀ a : Byte, sbox buildInv a ≠ a) ∧ (∀ a : Byte, sbox buildInv a ≠ a ^^^ 0xFF#8)

/-! ### The key scheduler -/

/-- R190: the round constants, by doubling from 1, and their ten values. -/
def Obligations.RoundConstants : Prop :=
  roundConst 0 = 0x01#8 ∧ (∀ i : Nat, 1 ≤ i → i ≤ 9 → roundConst i = xtime (roundConst (i - 1))) ∧
  (List.range 10).map roundConst =
    [0x01#8, 0x02#8, 0x04#8, 0x08#8, 0x10#8, 0x20#8, 0x40#8, 0x80#8, 0x1B#8, 0x36#8]

/-- R194: the schedule begins with the key, and byte j of every later word i is that of word i − 4 added to
that of word i − 1, which is rotated, substituted and given the round constant when i is a multiple of 4. -/
def Obligations.ExpandedScheduleRecurrence : Prop :=
  ∀ (T : Table) (K : Block),
    (∀ m : Nat, ∀ h : m < 16, (expand T K)[m] = K[m]) ∧
    (∀ i j : Nat, ∀ hi : 4 ≤ i, ∀ hi' : i < 44, ∀ hj : j < 4,
      (expand T K)[4 * i + j] =
        (expand T K)[4 * (i - 4) + j] ^^^
          (if i % 4 = 0 then
            sbox T ((expand T K)[4 * (i - 1) + (j + 1) % 4]) ^^^
              (if j = 0 then roundConst (i / 4 - 1) else 0x00#8)
          else (expand T K)[4 * (i - 1) + j]))

/-- With a valid table KEYEXP completes with W = expand(KEY) and KEY_VALID = 1 and writes nothing else;
otherwise it reports INVTAB_NOT_INIT with W and KEY_VALID unchanged (44_key_schedule.md R196). -/
def Obligations.KeyexpResult : Prop :=
  decode 0x08#8 = .ok .keyexp ∧
  (∀ s : State, s.invReady = true → exec .keyexp s =
    .next { s with w := expand s.invtab s.key, keyValid := true, done := true, pending := none }) ∧
  (∀ s : State, s.invReady = false →
    ∃ t, exec .keyexp s = .next t ∧ t.err = true ∧ t.errcode = 0x02#8 ∧ t.w = s.w ∧
      t.keyValid = s.keyValid)

/-! ### The round pipeline -/

/-- With RKSEL at most 10 and a valid schedule ARK completes, adds byte 16·RKSEL + i of W to byte i of STATE,
and writes nothing else; issued twice with the same RKSEL it restores STATE. With RKSEL over 10 it reports
BAD_INDEX, else without a valid schedule NO_KEY, with STATE unchanged (45_round_pipeline.md R216, R210). -/
def Obligations.ArkResult : Prop :=
  decode 0x09#8 = .ok .ark ∧
  (∀ s : State, ∀ hr : s.rksel.toNat ≤ 10, s.keyValid = true →
    ∃ t u, exec .ark s = .next t ∧
      t = { s with stateReg := t.stateReg, done := true, pending := none } ∧
      (∀ i : Nat, ∀ h : i < 16, t.stateReg[i] = s.stateReg[i] ^^^ s.w[16 * s.rksel.toNat + i]) ∧
      exec .ark t = .next u ∧ u.stateReg = s.stateReg) ∧
  (∀ s : State, 10 < s.rksel.toNat →
    ∃ t, exec .ark s = .next t ∧ t.errcode = 0x04#8 ∧ t.stateReg = s.stateReg) ∧
  (∀ s : State, s.rksel.toNat ≤ 10 → s.keyValid = false →
    ∃ t, exec .ark s = .next t ∧ t.errcode = 0x03#8 ∧ t.stateReg = s.stateReg)

/-- R217, R211: with a valid table SUB completes, substitutes every byte of STATE, and writes nothing else,
whatever KEY_VALID is; otherwise it reports INVTAB_NOT_INIT with STATE unchanged. The rule's two examples are
over the builder's table. -/
def Obligations.SubResult : Prop :=
  decode 0x0A#8 = .ok .sub ∧
  (∀ s : State, s.invReady = true →
    ∃ t, exec .sub s = .next t ∧
      t = { s with stateReg := t.stateReg, done := true, pending := none } ∧
      ∀ i : Nat, ∀ h : i < 16, t.stateReg[i] = sbox s.invtab s.stateReg[i]) ∧
  (∀ s : State, s.invReady = false →
    ∃ t, exec .sub s = .next t ∧ t.err = true ∧ t.errcode = 0x02#8 ∧ t.stateReg = s.stateReg) ∧
  subBytes buildInv (Vector.replicate 16 0x00#8) = Vector.replicate 16 0x63#8 ∧
  subBytes buildInv #v[0x00, 0x10, 0x20, 0x30, 0x40, 0x50, 0x60, 0x70, 0x80, 0x90, 0xA0, 0xB0, 0xC0, 0xD0,
      0xE0, 0xF0] =
    #v[0x63, 0xCA, 0xB7, 0x04, 0x09, 0x53, 0xD0, 0x51, 0xCD, 0x60, 0xE0, 0xE7, 0xBA, 0x70, 0xE1, 0x8C]

/-- R218: SHR completes in every state, moves the byte at row r, column (c + r) mod 4 of STATE to row r,
column c, and writes nothing else. Row 0 stays, four SHR in a row restore STATE, a STATE of four equal columns
is unchanged, and the rule's example holds. -/
def Obligations.ShrResult : Prop :=
  decode 0x0B#8 = .ok .shr ∧
  (∀ s : State, ∃ t u v x, exec .shr s = .next t ∧
    t = { s with stateReg := t.stateReg, done := true, pending := none } ∧
    (∀ r c : Nat, ∀ hr : r < 4, ∀ hc : c < 4,
      t.stateReg[r + 4 * c] = s.stateReg[r + 4 * ((c + r) % 4)]) ∧
    t.stateReg = #v[s.stateReg[0], s.stateReg[5], s.stateReg[10], s.stateReg[15],
      s.stateReg[4], s.stateReg[9], s.stateReg[14], s.stateReg[3],
      s.stateReg[8], s.stateReg[13], s.stateReg[2], s.stateReg[7],
      s.stateReg[12], s.stateReg[1], s.stateReg[6], s.stateReg[11]] ∧
    (∀ c : Nat, ∀ hc : c < 4, t.stateReg[4 * c] = s.stateReg[4 * c]) ∧
    ((∀ r c : Nat, ∀ hr : r < 4, ∀ hc : c < 4, s.stateReg[4 * c + r] = s.stateReg[r]) →
      t.stateReg = s.stateReg) ∧
    exec .shr t = .next u ∧ exec .shr u = .next v ∧ exec .shr v = .next x ∧
    x.stateReg = s.stateReg) ∧
  shiftRows #v[0x00, 0x01, 0x02, 0x03, 0x04, 0x05, 0x06, 0x07, 0x08, 0x09, 0x0A, 0x0B, 0x0C, 0x0D, 0x0E,
      0x0F] =
    #v[0x00, 0x05, 0x0A, 0x0F, 0x04, 0x09, 0x0E, 0x03, 0x08, 0x0D, 0x02, 0x07, 0x0C, 0x01, 0x06, 0x0B]

/-- R219: MIX completes in every state, replaces the four bytes of each column by the four sums of R213, and
writes nothing else. A column of four equal bytes is unchanged, an all-zero one among them, and the rule's
examples hold. -/
def Obligations.MixResult : Prop :=
  decode 0x0C#8 = .ok .mix ∧
  (∀ s : State, ∃ t, exec .mix s = .next t ∧
    t = { s with stateReg := t.stateReg, done := true, pending := none } ∧
    (∀ c : Nat, ∀ hc : c < 4,
      t.stateReg[4 * c] = gmul 0x02#8 s.stateReg[4 * c] ^^^ gmul 0x03#8 s.stateReg[4 * c + 1] ^^^
        s.stateReg[4 * c + 2] ^^^ s.stateReg[4 * c + 3] ∧
      t.stateReg[4 * c + 1] = s.stateReg[4 * c] ^^^ gmul 0x02#8 s.stateReg[4 * c + 1] ^^^
        gmul 0x03#8 s.stateReg[4 * c + 2] ^^^ s.stateReg[4 * c + 3] ∧
      t.stateReg[4 * c + 2] = s.stateReg[4 * c] ^^^ s.stateReg[4 * c + 1] ^^^
        gmul 0x02#8 s.stateReg[4 * c + 2] ^^^ gmul 0x03#8 s.stateReg[4 * c + 3] ∧
      t.stateReg[4 * c + 3] = gmul 0x03#8 s.stateReg[4 * c] ^^^ s.stateReg[4 * c + 1] ^^^
        s.stateReg[4 * c + 2] ^^^ gmul 0x02#8 s.stateReg[4 * c + 3]) ∧
    (∀ c : Nat, ∀ hc : c < 4,
      (∀ k : Nat, ∀ hk : k < 4, s.stateReg[4 * c + k] = s.stateReg[4 * c]) →
      ∀ k : Nat, ∀ hk : k < 4, t.stateReg[4 * c + k] = s.stateReg[4 * c])) ∧
  mixColumn 0x01#8 0x00#8 0x00#8 0x00#8 = #v[0x02#8, 0x01#8, 0x01#8, 0x03#8] ∧
  mixColumn 0xDB#8 0x13#8 0x53#8 0x45#8 = #v[0x8E#8, 0x4D#8, 0xA1#8, 0xBC#8] ∧
  mixColumns #v[0x63, 0x53, 0xE0, 0x8C, 0x09, 0x60, 0xE1, 0x04, 0xCD, 0x70, 0xB7, 0x51, 0xBA, 0xCA, 0xD0,
      0xE7] =
    #v[0x5F, 0x72, 0x64, 0x15, 0x57, 0xF5, 0xBC, 0x92, 0xF7, 0xBE, 0x3B, 0x29, 0x1D, 0xB9, 0xF9, 0x1A]

/-- R223: which lanes of its input each lane of a transform depends on. -/
def Obligations.TransformLanes : Prop :=
  (∀ (b b' k k' : Block) (i : Nat) (h : i < 16), b[i] = b'[i] → k[i] = k'[i] →
    (addRoundKey b k)[i] = (addRoundKey b' k')[i]) ∧
  (∀ (T : Table) (b b' : Block) (i : Nat) (h : i < 16), b[i] = b'[i] →
    (subBytes T b)[i] = (subBytes T b')[i]) ∧
  (∀ (b : Block) (r c : Nat) (hr : r < 4) (hc : c < 4),
    (shiftRows b)[r + 4 * c] = b[r + 4 * ((c + r) % 4)]) ∧
  (∀ (b b' : Block) (c : Nat) (hc : c < 4),
    (∀ k : Nat, ∀ hk : k < 4, b[4 * c + k] = b'[4 * c + k]) →
    ∀ k : Nat, ∀ hk : k < 4, (mixColumns b)[4 * c + k] = (mixColumns b')[4 * c + k])

/-- With a valid table and a valid schedule ENC completes: OBS[0] is the block plus round key 0, each later
snapshot is a round of the one before (with MixColumns in rounds 1 to 9 and without it in round 10), STATE is
OBS[10], PHASE is Done, and nothing else is written (45_round_pipeline.md R220, R214, 10_state.md R28). -/
def Obligations.EncResult : Prop :=
  decode 0x0D#8 = .ok .enc ∧
  (∀ s : State, s.invReady = true → s.keyValid = true →
    ∃ t, exec .enc s = .next t ∧
      t = { s with
        stateReg := t.stateReg, obs := t.obs, phase := 0x0B#8, done := true, pending := none } ∧
      t.obs[0] = addRoundKey s.stateReg (roundKey s.w 0) ∧
      (∀ r : Nat, ∀ h1 : 1 ≤ r, ∀ h9 : r ≤ 9,
        t.obs[r] =
          addRoundKey (mixColumns (shiftRows (subBytes s.invtab t.obs[r - 1]))) (roundKey s.w r)) ∧
      t.obs[10] = addRoundKey (shiftRows (subBytes s.invtab t.obs[9])) (roundKey s.w 10) ∧
      t.stateReg = t.obs[10])

/-- ENCK is KEYEXP, then ENC: with a valid table it completes in the very state that the two give one after
the other, and so never reports NO_KEY; otherwise it reports INVTAB_NOT_INIT and writes neither W nor STATE
nor OBS nor PHASE (45_round_pipeline.md R221). -/
def Obligations.EnckIsKeyexpThenEnc : Prop :=
  decode 0x0E#8 = .ok .enck ∧
  (∀ s : State, s.invReady = true →
    ∃ t u, exec .keyexp s = .next t ∧ exec .enc t = .next u ∧ exec .enck s = .next u ∧
      u = { s with
        w := expand s.invtab s.key, keyValid := true, stateReg := u.stateReg, obs := u.obs,
        phase := 0x0B#8, done := true, pending := none }) ∧
  (∀ s : State, s.invReady = false →
    ∃ t, exec .enck s = .next t ∧ t.err = true ∧ t.errcode = 0x02#8 ∧ t.w = s.w ∧
      t.stateReg = s.stateReg ∧ t.obs = s.obs ∧ t.phase = s.phase)

/-- The pipeline is its step commands: SUB, SHR, MIX and then ARK with RKSEL = r, issued on the snapshot of
round r − 1 of an encryption, leave the snapshot of round r in STATE, for r in 1 to 9; without MIX for r = 10
(45_round_pipeline.md R214, R216 to R219). -/
def Obligations.EncRoundsAreStepCommands : Prop :=
  ∀ s e : State, s.invReady = true → s.keyValid = true → exec .enc s = .next e →
    (∀ r : Nat, ∀ h1 : 1 ≤ r, ∀ h9 : r ≤ 9,
      ∃ a b c d, exec .sub { s with stateReg := e.obs[r - 1] } = .next a ∧ exec .shr a = .next b ∧
        exec .mix b = .next c ∧ exec .ark { c with rksel := BitVec.ofNat 4 r } = .next d ∧
        d.stateReg = e.obs[r]) ∧
    (∃ a b d, exec .sub { s with stateReg := e.obs[9] } = .next a ∧ exec .shr a = .next b ∧
      exec .ark { b with rksel := 10#4 } = .next d ∧ d.stateReg = e.stateReg)

/-! ### The bus -/

/-- The register map's values: what an exact read returns at every address, reserved ones reading 0x00; the
windows RKWIN[j] and OBSWIN[j] show W[16·RKSEL + j] and OBS[OBSSEL][j] for a selector up to 10, and 0x00 for
11 to 15 (20_memory.md R61, R62, R64, R81, 10_state.md R36, R37). -/
def Obligations.RegisterMapValues : Prop :=
  ∀ s : State,
    (∀ j : Nat, ∀ hj : j < 16,
      regRead s (locate (BitVec.ofNat 8 j)) = s.stateReg[j] ∧
      regRead s (locate (BitVec.ofNat 8 (0x10 + j))) = s.key[j] ∧
      (∀ h : s.rksel.toNat ≤ 10,
        regRead s (locate (BitVec.ofNat 8 (0x40 + j))) = s.w[16 * s.rksel.toNat + j]) ∧
      (10 < s.rksel.toNat → regRead s (locate (BitVec.ofNat 8 (0x40 + j))) = 0x00#8) ∧
      (∀ h : s.obssel.toNat ≤ 10,
        regRead s (locate (BitVec.ofNat 8 (0x50 + j))) = (s.obs[s.obssel.toNat])[j]) ∧
      (10 < s.obssel.toNat → regRead s (locate (BitVec.ofNat 8 (0x50 + j))) = 0x00#8)) ∧
    regRead s (locate 0x20#8) = s.opa ∧ regRead s (locate 0x21#8) = s.opb ∧
    regRead s (locate 0x22#8) = s.res ∧ regRead s (locate 0x23#8) = s.cmd ∧
    regRead s (locate 0x24#8) = statusByte s ∧ regRead s (locate 0x25#8) = s.errcode ∧
    regRead s (locate 0x26#8) = s.phase ∧
    (regRead s (locate 0x27#8)).toNat = s.rksel.toNat ∧
    (regRead s (locate 0x28#8)).toNat = s.obssel.toNat ∧
    (∀ a : Byte, 0x29 ≤ a.toNat ∧ a.toNat ≤ 0x3F ∨ 0x60 ≤ a.toNat →
      regRead s (locate a) = 0x00#8)

/-- STATUS bit by bit: BUSY, DONE, ERR, INV_READY, KEY_VALID, WDROP, and bits 7:6 always 0; BUSY is exactly
"a command is in flight" (10_state.md R31, R38). -/
def Obligations.StatusBits : Prop :=
  ∀ s : State,
    (statusByte s).getLsbD 0 = s.pending.isSome ∧ (statusByte s).getLsbD 1 = s.done ∧
    (statusByte s).getLsbD 2 = s.err ∧ (statusByte s).getLsbD 3 = s.invReady ∧
    (statusByte s).getLsbD 4 = s.keyValid ∧ (statusByte s).getLsbD 5 = s.wdrop ∧
    (statusByte s).getLsbD 6 = false ∧ (statusByte s).getLsbD 7 = false

/-- A read returns the exact value unless a command is in flight that may change the address, and then an
unspecified byte, of PHASE one in 0x00 to 0x0A; no state of the core changes either way (20_memory.md R62,
R69, R70, 10_state.md R33). The unspecified byte is a free value: it may be any. -/
def Obligations.BusReadResult : Prop :=
  ∀ (s : State) (a : Byte) (rest : List Event), s.agenda = .read a :: rest →
    ((s.pending = none ∨ ∃ c, s.pending = some c ∧
        ∀ i, decode c = .ok i → inWriteSet i (locate a) = false) →
      step s = .next { s with agenda := rest, returned := regRead s (locate a) :: s.returned }) ∧
    (∀ c i, s.pending = some c → decode c = .ok i → inWriteSet i (locate a) = true →
      ∃ v, step s = .next { s with
          agenda := rest, returned := v :: s.returned, draws := s.draws + 1 } ∧
        (a = 0x26#8 → v.toNat ≤ 0x0A))

/-- R68: every host write while BUSY = 1, to any address, is dropped: no register changes, but WDROP is set,
and it stays 1 until the next issue (or a reset). -/
def Obligations.WriteWhileBusyIsDropped : Prop :=
  (∀ (s : State) (a v : Byte) (rest : List Event), busy s = true → s.agenda = .write a v :: rest →
    step s = .next { s with wdrop := true, agenda := rest }) ∧
  (∀ s t : State, s.wdrop = true → step s = .next t → t.wdrop = false →
    (busy s = false ∧ ∃ v rest, s.agenda = .write 0x23#8 v :: rest) ∨ ∃ rest, s.agenda = .reset :: rest)

/-- R64, R65: a write to a reserved address or to a read-only register is ignored, and a reserved address
reads as 0x00, whatever is in flight. -/
def Obligations.ReservedAndReadOnlyAddresses : Prop :=
  (∀ (s : State) (a v : Byte) (rest : List Event), busy s = false → s.agenda = .write a v :: rest →
    0x29 ≤ a.toNat ∧ a.toNat ≤ 0x3F ∨ 0x60 ≤ a.toNat ∨ a = 0x22#8 ∨ a = 0x24#8 ∨ a = 0x25#8 ∨
      a = 0x26#8 ∨ 0x40 ≤ a.toNat ∧ a.toNat ≤ 0x4F ∨ 0x50 ≤ a.toNat ∧ a.toNat ≤ 0x5F →
    step s = .next { s with agenda := rest }) ∧
  (∀ (s : State) (a : Byte) (rest : List Event), s.agenda = .read a :: rest →
    0x29 ≤ a.toNat ∧ a.toNat ≤ 0x3F ∨ 0x60 ≤ a.toNat →
    step s = .next { s with agenda := rest, returned := 0x00#8 :: s.returned })

/-- R66: a host write to a KEY byte accepted while BUSY = 0 stores the byte and clears KEY_VALID, also when
the byte is the old one; W and everything else stay. -/
def Obligations.KeyWriteClearsKeyValid : Prop :=
  ∀ (s : State) (i : Nat) (v : Byte) (rest : List Event), ∀ h : i < 16, busy s = false →
    s.agenda = .write (BitVec.ofNat 8 (0x10 + i)) v :: rest →
    step s = .next { s with key := s.key.set i v, keyValid := false, agenda := rest }

/-- R111: a host write to CMD while BUSY = 0 issues the byte, whatever it is: no legality is checked and no
error reported. While BUSY = 1 it is dropped. -/
def Obligations.CmdWriteIssues : Prop :=
  ∀ (s : State) (v : Byte) (rest : List Event), s.agenda = .write 0x23#8 v :: rest →
    (busy s = false →
      ∃ t, step s = .next t ∧ busy t = true ∧
        t = { s with
          cmd := v, done := false, err := false, errcode := 0x00#8, wdrop := false, pending := some v,
          agenda := rest }) ∧
    (busy s = true → step s = .next { s with wdrop := true, agenda := rest })

/-- The other accepted writes: STATE, OPA and OPB store the byte, RKSEL and OBSSEL its bits 3:0, and nothing
else changes (20_memory.md R63, 10_state.md R34, R35). -/
def Obligations.PlainWrites : Prop :=
  ∀ (s : State) (a v : Byte) (rest : List Event), busy s = false → s.agenda = .write a v :: rest →
    (∀ h : a.toNat < 16, step s = .next { s with stateReg := s.stateReg.set a.toNat v, agenda := rest }) ∧
    (a = 0x20#8 → step s = .next { s with opa := v, agenda := rest }) ∧
    (a = 0x21#8 → step s = .next { s with opb := v, agenda := rest }) ∧
    (a = 0x27#8 → ∃ t, step s = .next t ∧ t = { s with rksel := t.rksel, agenda := rest } ∧
      t.rksel.toNat = v.toNat % 16) ∧
    (a = 0x28#8 → ∃ t, step s = .next t ∧ t = { s with obssel := t.obssel, agenda := rest } ∧
      t.obssel.toNat = v.toNat % 16)

/-- A read after a write returns the byte written, of a selector its bits 3:0, and a write leaves what every
other address reads, but for what it also updates: CMD's issue, a KEY write's STATUS, a selector's window
(20_memory.md R63, R81). -/
def Obligations.WriteThenRead : Prop :=
  (∀ (s : State) (a v : Byte) (rest : List Event), busy s = false →
    s.agenda = .write a v :: .read a :: rest →
    (a.toNat ≤ 0x21 → ∃ t u, step s = .next t ∧ step t = .next u ∧ u.returned = v :: s.returned) ∧
    (a = 0x27#8 ∨ a = 0x28#8 →
      ∃ t u, step s = .next t ∧ step t = .next u ∧ u.returned = (v &&& 0x0F#8) :: s.returned)) ∧
  (∀ (s t : State) (a b v : Byte) (rest : List Event), busy s = false → s.agenda = .write a v :: rest →
    a ≠ 0x23#8 → b ≠ a → b ≠ 0x24#8 →
    (a = 0x27#8 → ¬ (0x40 ≤ b.toNat ∧ b.toNat ≤ 0x4F)) →
    (a = 0x28#8 → ¬ (0x50 ≤ b.toNat ∧ b.toNat ≤ 0x5F)) →
    step s = .next t → regRead t (locate b) = regRead s (locate b))

/-- No host step disables the completion, and it comes: with only host transactions on the agenda, one step
more than their number leaves nothing in flight (40_control.md R113; that the engine moves when the agenda is
empty is the model's fairness, notes/assumptions/3.md). -/
def Obligations.PendingCommandCompletes : Prop :=
  (∀ (s t : State) (c a v : Byte) (rest : List Event), s.pending = some c →
    s.agenda = .read a :: rest ∨ s.agenda = .write a v :: rest → step s = .next t →
    t.pending = some c) ∧
  (∀ s : State, (∀ e ∈ s.agenda, ∃ a v, e = .read a ∨ e = .write a v) → busy s = true →
    ∃ t, Host.Core.run Sys2Proof.core (s.agenda.length + 1) s = .next t ∧ busy t = false)

/-! ### Reset -/

/-- The reset step abandons a command in flight and sets the control and status registers to the values of
10_state.md R41, so STATUS reads 0x08 with a preloaded table and 0x00 without (70_reset_and_hazards.md R270,
R271). Of the data registers, which R41 leaves open, it says nothing. -/
def Obligations.ResetStepValues : Prop :=
  ∀ (s : State) (rest : List Event), s.agenda = .reset :: rest →
    ∃ t, step s = .next t ∧ t.pending = none ∧ t.cmd = 0x00#8 ∧ t.errcode = 0x00#8 ∧
      t.phase = 0x00#8 ∧ t.rksel = 0#4 ∧ t.obssel = 0#4 ∧ t.params = s.params ∧ t.agenda = rest ∧
      statusByte t = (if s.params.invPreloaded = true then 0x08#8 else 0x00#8) ∧
      (s.params.invPreloaded = true → t.invtab = buildInv)

/-- The machine right after reset: idle, STATUS 0x08 for the default part and 0x00 for one whose table is not
preloaded, and the control registers 0 (10_state.md R41, 70_reset_and_hazards.md R271). -/
def Obligations.ResetState : Prop :=
  State.reset.params.invPreloaded = true ∧ statusByte State.reset = 0x08#8 ∧
  State.reset.invtab = buildInv ∧ statusByte (State.resetFor ⟨false⟩) = 0x00#8 ∧
  ∀ p : Params, (State.resetFor p).pending = none ∧ (State.resetFor p).cmd = 0x00#8 ∧
    (State.resetFor p).errcode = 0x00#8 ∧ (State.resetFor p).phase = 0x00#8 ∧
    (State.resetFor p).rksel = 0#4 ∧ (State.resetFor p).obssel = 0#4
end

