-- ==== Sys2Proof/Laws/Arrays.lean ====
section
/-! SUPPORT. The transforms of the cipher and the key schedule, byte by byte. -/

namespace Sys2Proof.Machine

open Sys2Proof

section
variable (T : Table) (b rk : Block) (w : Schedule)

theorem roundKey_byte {r i : Nat} (hr : r ≤ 10) (hi : i < 16) :
    (roundKey w r)[i] = w[16 * r + i]'(by omega) := by
  have h : 16 * r + i < 176 := by omega
  simp [roundKey, h]

@[simp] theorem addRoundKey_byte {i : Nat} (hi : i < 16) : (addRoundKey b rk)[i] = b[i] ^^^ rk[i] := by
  simp [addRoundKey, gadd]

@[simp] theorem subBytes_byte {i : Nat} (hi : i < 16) : (subBytes T b)[i] = sbox T b[i] := by
  simp [subBytes]

@[simp] theorem shiftRows_byte {i : Nat} (hi : i < 16) :
    (shiftRows b)[i] = b[i % 4 + 4 * ((i / 4 + i % 4) % 4)] := by simp [shiftRows]

@[simp] theorem mixColumns_byte {i : Nat} (hi : i < 16) :
    (mixColumns b)[i] =
      (mixColumn b[4 * (i / 4)] b[4 * (i / 4) + 1] b[4 * (i / 4) + 2] b[4 * (i / 4) + 3])[i % 4] := by
  simp [mixColumns]

@[simp] theorem xorWord_byte (x y : Word) {j : Nat} (hj : j < 4) : (xorWord x y)[j] = x[j] ^^^ y[j] := by
  simp [xorWord, gadd]

@[simp] theorem subWord_byte (x : Word) {j : Nat} (hj : j < 4) : (subWord T x)[j] = sbox T x[j] := by
  simp [subWord]

/-- Adding the same round key twice gives the block back. -/
theorem addRoundKey_twice : addRoundKey (addRoundKey b rk) rk = b := by
  ext i hi
  simp

@[simp] theorem snapshots_block (P : Block) {r : Nat} (hr : r < 11) :
    (snapshots T w P)[r] = snapshot T w P r := by simp [snapshots]

/-! ### The rounds -/

theorem snapshot_zero (P : Block) : snapshot T w P 0 = addRoundKey P (roundKey w 0) := rfl

theorem snapshot_succ (P : Block) (r : Nat) :
    snapshot T w P (r + 1) = cipherRound T w (r + 1) (snapshot T w P r) := rfl

/-- A full round, 1 to 9. -/
theorem cipherRound_full {r : Nat} (h : r ≠ 10) :
    cipherRound T w r b = addRoundKey (mixColumns (shiftRows (subBytes T b))) (roundKey w r) := by
  simp [cipherRound, h]

/-- The final round. -/
theorem cipherRound_final :
    cipherRound T w 10 b = addRoundKey (shiftRows (subBytes T b)) (roundKey w 10) := rfl

theorem cipher_eq (P : Block) : cipher T w P = cipherRound T w 10 (snapshot T w P 9) := rfl

theorem snapshot_ten (P : Block) : snapshot T w P 10 = cipherRound T w 10 (snapshot T w P 9) := rfl

/-! ### The words of a schedule -/

@[simp] theorem expandFrom_length (n i : Nat) (a b c d : Word) : (expandFrom T n i a b c d).length = n := by
  induction n generalizing i a b c d with
  | zero => rfl
  | succ n ih => simp [expandFrom, ih]

@[simp] theorem scheduleWords_length (K : Block) : (scheduleWords T K).length = 44 := by
  simp [scheduleWords]

/-- The schedule is its words, one after the other. -/
theorem expand_byte (K : Block) {m : Nat} (hm : m < 176) :
    (expand T K)[m] = ((scheduleWords T K)[m / 4]'(by simp; omega))[m % 4] := by
  have h : m / 4 < (scheduleWords T K).length := by simp; omega
  simp [expand, List.getElem?_eq_getElem h]

end

end Sys2Proof.Machine
end

