-- ==== Sys2Proof/Laws/State.lean ====
section
/-! SUPPORT. One lemma per field per update of the state, so that no later proof unfolds a record update. -/

namespace Sys2Proof.Machine

open Sys2Proof

/-! ### setRes -/

section
variable (v : Byte) (s : State)

@[simp] theorem setRes_stateReg : (setRes v s).stateReg = s.stateReg := rfl
@[simp] theorem setRes_key : (setRes v s).key = s.key := rfl
@[simp] theorem setRes_w : (setRes v s).w = s.w := rfl
@[simp] theorem setRes_invtab : (setRes v s).invtab = s.invtab := rfl
@[simp] theorem setRes_obs : (setRes v s).obs = s.obs := rfl
@[simp] theorem setRes_opa : (setRes v s).opa = s.opa := rfl
@[simp] theorem setRes_opb : (setRes v s).opb = s.opb := rfl
@[simp] theorem setRes_res : (setRes v s).res = v := rfl
@[simp] theorem setRes_cmd : (setRes v s).cmd = s.cmd := rfl
@[simp] theorem setRes_done : (setRes v s).done = s.done := rfl
@[simp] theorem setRes_err : (setRes v s).err = s.err := rfl
@[simp] theorem setRes_invReady : (setRes v s).invReady = s.invReady := rfl
@[simp] theorem setRes_keyValid : (setRes v s).keyValid = s.keyValid := rfl
@[simp] theorem setRes_wdrop : (setRes v s).wdrop = s.wdrop := rfl
@[simp] theorem setRes_errcode : (setRes v s).errcode = s.errcode := rfl
@[simp] theorem setRes_phase : (setRes v s).phase = s.phase := rfl
@[simp] theorem setRes_rksel : (setRes v s).rksel = s.rksel := rfl
@[simp] theorem setRes_obssel : (setRes v s).obssel = s.obssel := rfl
@[simp] theorem setRes_pending : (setRes v s).pending = s.pending := rfl
@[simp] theorem setRes_params : (setRes v s).params = s.params := rfl
@[simp] theorem setRes_agenda : (setRes v s).agenda = s.agenda := rfl
@[simp] theorem setRes_returned : (setRes v s).returned = s.returned := rfl
@[simp] theorem setRes_draws : (setRes v s).draws = s.draws := rfl
@[simp] theorem setRes_fatal : (setRes v s).fatal = s.fatal := rfl

end

/-! ### setStateReg -/

section
variable (b : Block) (s : State)

@[simp] theorem setStateReg_stateReg : (setStateReg b s).stateReg = b := rfl
@[simp] theorem setStateReg_key : (setStateReg b s).key = s.key := rfl
@[simp] theorem setStateReg_w : (setStateReg b s).w = s.w := rfl
@[simp] theorem setStateReg_invtab : (setStateReg b s).invtab = s.invtab := rfl
@[simp] theorem setStateReg_obs : (setStateReg b s).obs = s.obs := rfl
@[simp] theorem setStateReg_opa : (setStateReg b s).opa = s.opa := rfl
@[simp] theorem setStateReg_opb : (setStateReg b s).opb = s.opb := rfl
@[simp] theorem setStateReg_res : (setStateReg b s).res = s.res := rfl
@[simp] theorem setStateReg_cmd : (setStateReg b s).cmd = s.cmd := rfl
@[simp] theorem setStateReg_done : (setStateReg b s).done = s.done := rfl
@[simp] theorem setStateReg_err : (setStateReg b s).err = s.err := rfl
@[simp] theorem setStateReg_invReady : (setStateReg b s).invReady = s.invReady := rfl
@[simp] theorem setStateReg_keyValid : (setStateReg b s).keyValid = s.keyValid := rfl
@[simp] theorem setStateReg_wdrop : (setStateReg b s).wdrop = s.wdrop := rfl
@[simp] theorem setStateReg_errcode : (setStateReg b s).errcode = s.errcode := rfl
@[simp] theorem setStateReg_phase : (setStateReg b s).phase = s.phase := rfl
@[simp] theorem setStateReg_rksel : (setStateReg b s).rksel = s.rksel := rfl
@[simp] theorem setStateReg_obssel : (setStateReg b s).obssel = s.obssel := rfl
@[simp] theorem setStateReg_pending : (setStateReg b s).pending = s.pending := rfl
@[simp] theorem setStateReg_params : (setStateReg b s).params = s.params := rfl
@[simp] theorem setStateReg_agenda : (setStateReg b s).agenda = s.agenda := rfl
@[simp] theorem setStateReg_returned : (setStateReg b s).returned = s.returned := rfl
@[simp] theorem setStateReg_draws : (setStateReg b s).draws = s.draws := rfl
@[simp] theorem setStateReg_fatal : (setStateReg b s).fatal = s.fatal := rfl

end

/-! ### setSchedule -/

section
variable (w : Schedule) (s : State)

@[simp] theorem setSchedule_stateReg : (setSchedule w s).stateReg = s.stateReg := rfl
@[simp] theorem setSchedule_key : (setSchedule w s).key = s.key := rfl
@[simp] theorem setSchedule_w : (setSchedule w s).w = w := rfl
@[simp] theorem setSchedule_invtab : (setSchedule w s).invtab = s.invtab := rfl
@[simp] theorem setSchedule_obs : (setSchedule w s).obs = s.obs := rfl
@[simp] theorem setSchedule_opa : (setSchedule w s).opa = s.opa := rfl
@[simp] theorem setSchedule_opb : (setSchedule w s).opb = s.opb := rfl
@[simp] theorem setSchedule_res : (setSchedule w s).res = s.res := rfl
@[simp] theorem setSchedule_cmd : (setSchedule w s).cmd = s.cmd := rfl
@[simp] theorem setSchedule_done : (setSchedule w s).done = s.done := rfl
@[simp] theorem setSchedule_err : (setSchedule w s).err = s.err := rfl
@[simp] theorem setSchedule_invReady : (setSchedule w s).invReady = s.invReady := rfl
@[simp] theorem setSchedule_keyValid : (setSchedule w s).keyValid = true := rfl
@[simp] theorem setSchedule_wdrop : (setSchedule w s).wdrop = s.wdrop := rfl
@[simp] theorem setSchedule_errcode : (setSchedule w s).errcode = s.errcode := rfl
@[simp] theorem setSchedule_phase : (setSchedule w s).phase = s.phase := rfl
@[simp] theorem setSchedule_rksel : (setSchedule w s).rksel = s.rksel := rfl
@[simp] theorem setSchedule_obssel : (setSchedule w s).obssel = s.obssel := rfl
@[simp] theorem setSchedule_pending : (setSchedule w s).pending = s.pending := rfl
@[simp] theorem setSchedule_params : (setSchedule w s).params = s.params := rfl
@[simp] theorem setSchedule_agenda : (setSchedule w s).agenda = s.agenda := rfl
@[simp] theorem setSchedule_returned : (setSchedule w s).returned = s.returned := rfl
@[simp] theorem setSchedule_draws : (setSchedule w s).draws = s.draws := rfl
@[simp] theorem setSchedule_fatal : (setSchedule w s).fatal = s.fatal := rfl

end

/-! ### setTable -/

section
variable (T : Table) (s : State)

@[simp] theorem setTable_stateReg : (setTable T s).stateReg = s.stateReg := rfl
@[simp] theorem setTable_key : (setTable T s).key = s.key := rfl
@[simp] theorem setTable_w : (setTable T s).w = s.w := rfl
@[simp] theorem setTable_invtab : (setTable T s).invtab = T := rfl
@[simp] theorem setTable_obs : (setTable T s).obs = s.obs := rfl
@[simp] theorem setTable_opa : (setTable T s).opa = s.opa := rfl
@[simp] theorem setTable_opb : (setTable T s).opb = s.opb := rfl
@[simp] theorem setTable_res : (setTable T s).res = s.res := rfl
@[simp] theorem setTable_cmd : (setTable T s).cmd = s.cmd := rfl
@[simp] theorem setTable_done : (setTable T s).done = s.done := rfl
@[simp] theorem setTable_err : (setTable T s).err = s.err := rfl
@[simp] theorem setTable_invReady : (setTable T s).invReady = true := rfl
@[simp] theorem setTable_keyValid : (setTable T s).keyValid = s.keyValid := rfl
@[simp] theorem setTable_wdrop : (setTable T s).wdrop = s.wdrop := rfl
@[simp] theorem setTable_errcode : (setTable T s).errcode = s.errcode := rfl
@[simp] theorem setTable_phase : (setTable T s).phase = s.phase := rfl
@[simp] theorem setTable_rksel : (setTable T s).rksel = s.rksel := rfl
@[simp] theorem setTable_obssel : (setTable T s).obssel = s.obssel := rfl
@[simp] theorem setTable_pending : (setTable T s).pending = s.pending := rfl
@[simp] theorem setTable_params : (setTable T s).params = s.params := rfl
@[simp] theorem setTable_agenda : (setTable T s).agenda = s.agenda := rfl
@[simp] theorem setTable_returned : (setTable T s).returned = s.returned := rfl
@[simp] theorem setTable_draws : (setTable T s).draws = s.draws := rfl
@[simp] theorem setTable_fatal : (setTable T s).fatal = s.fatal := rfl

end

/-! ### setCipher -/

section
variable (b : Block) (o : Snapshots) (s : State)

@[simp] theorem setCipher_stateReg : (setCipher b o s).stateReg = b := rfl
@[simp] theorem setCipher_key : (setCipher b o s).key = s.key := rfl
@[simp] theorem setCipher_w : (setCipher b o s).w = s.w := rfl
@[simp] theorem setCipher_invtab : (setCipher b o s).invtab = s.invtab := rfl
@[simp] theorem setCipher_obs : (setCipher b o s).obs = o := rfl
@[simp] theorem setCipher_opa : (setCipher b o s).opa = s.opa := rfl
@[simp] theorem setCipher_opb : (setCipher b o s).opb = s.opb := rfl
@[simp] theorem setCipher_res : (setCipher b o s).res = s.res := rfl
@[simp] theorem setCipher_cmd : (setCipher b o s).cmd = s.cmd := rfl
@[simp] theorem setCipher_done : (setCipher b o s).done = s.done := rfl
@[simp] theorem setCipher_err : (setCipher b o s).err = s.err := rfl
@[simp] theorem setCipher_invReady : (setCipher b o s).invReady = s.invReady := rfl
@[simp] theorem setCipher_keyValid : (setCipher b o s).keyValid = s.keyValid := rfl
@[simp] theorem setCipher_wdrop : (setCipher b o s).wdrop = s.wdrop := rfl
@[simp] theorem setCipher_errcode : (setCipher b o s).errcode = s.errcode := rfl
@[simp] theorem setCipher_phase : (setCipher b o s).phase = 0x0B#8 := rfl
@[simp] theorem setCipher_rksel : (setCipher b o s).rksel = s.rksel := rfl
@[simp] theorem setCipher_obssel : (setCipher b o s).obssel = s.obssel := rfl
@[simp] theorem setCipher_pending : (setCipher b o s).pending = s.pending := rfl
@[simp] theorem setCipher_params : (setCipher b o s).params = s.params := rfl
@[simp] theorem setCipher_agenda : (setCipher b o s).agenda = s.agenda := rfl
@[simp] theorem setCipher_returned : (setCipher b o s).returned = s.returned := rfl
@[simp] theorem setCipher_draws : (setCipher b o s).draws = s.draws := rfl
@[simp] theorem setCipher_fatal : (setCipher b o s).fatal = s.fatal := rfl

end

/-! ### setStateByte -/

section
variable (i : Fin 16) (v : Byte) (s : State)

@[simp] theorem setStateByte_stateReg : (setStateByte i v s).stateReg = s.stateReg.set i.val v i.isLt := rfl
@[simp] theorem setStateByte_key : (setStateByte i v s).key = s.key := rfl
@[simp] theorem setStateByte_w : (setStateByte i v s).w = s.w := rfl
@[simp] theorem setStateByte_invtab : (setStateByte i v s).invtab = s.invtab := rfl
@[simp] theorem setStateByte_obs : (setStateByte i v s).obs = s.obs := rfl
@[simp] theorem setStateByte_opa : (setStateByte i v s).opa = s.opa := rfl
@[simp] theorem setStateByte_opb : (setStateByte i v s).opb = s.opb := rfl
@[simp] theorem setStateByte_res : (setStateByte i v s).res = s.res := rfl
@[simp] theorem setStateByte_cmd : (setStateByte i v s).cmd = s.cmd := rfl
@[simp] theorem setStateByte_done : (setStateByte i v s).done = s.done := rfl
@[simp] theorem setStateByte_err : (setStateByte i v s).err = s.err := rfl
@[simp] theorem setStateByte_invReady : (setStateByte i v s).invReady = s.invReady := rfl
@[simp] theorem setStateByte_keyValid : (setStateByte i v s).keyValid = s.keyValid := rfl
@[simp] theorem setStateByte_wdrop : (setStateByte i v s).wdrop = s.wdrop := rfl
@[simp] theorem setStateByte_errcode : (setStateByte i v s).errcode = s.errcode := rfl
@[simp] theorem setStateByte_phase : (setStateByte i v s).phase = s.phase := rfl
@[simp] theorem setStateByte_rksel : (setStateByte i v s).rksel = s.rksel := rfl
@[simp] theorem setStateByte_obssel : (setStateByte i v s).obssel = s.obssel := rfl
@[simp] theorem setStateByte_pending : (setStateByte i v s).pending = s.pending := rfl
@[simp] theorem setStateByte_params : (setStateByte i v s).params = s.params := rfl
@[simp] theorem setStateByte_agenda : (setStateByte i v s).agenda = s.agenda := rfl
@[simp] theorem setStateByte_returned : (setStateByte i v s).returned = s.returned := rfl
@[simp] theorem setStateByte_draws : (setStateByte i v s).draws = s.draws := rfl
@[simp] theorem setStateByte_fatal : (setStateByte i v s).fatal = s.fatal := rfl

end

/-! ### setKeyByte -/

section
variable (i : Fin 16) (v : Byte) (s : State)

@[simp] theorem setKeyByte_stateReg : (setKeyByte i v s).stateReg = s.stateReg := rfl
@[simp] theorem setKeyByte_key : (setKeyByte i v s).key = s.key.set i.val v i.isLt := rfl
@[simp] theorem setKeyByte_w : (setKeyByte i v s).w = s.w := rfl
@[simp] theorem setKeyByte_invtab : (setKeyByte i v s).invtab = s.invtab := rfl
@[simp] theorem setKeyByte_obs : (setKeyByte i v s).obs = s.obs := rfl
@[simp] theorem setKeyByte_opa : (setKeyByte i v s).opa = s.opa := rfl
@[simp] theorem setKeyByte_opb : (setKeyByte i v s).opb = s.opb := rfl
@[simp] theorem setKeyByte_res : (setKeyByte i v s).res = s.res := rfl
@[simp] theorem setKeyByte_cmd : (setKeyByte i v s).cmd = s.cmd := rfl
@[simp] theorem setKeyByte_done : (setKeyByte i v s).done = s.done := rfl
@[simp] theorem setKeyByte_err : (setKeyByte i v s).err = s.err := rfl
@[simp] theorem setKeyByte_invReady : (setKeyByte i v s).invReady = s.invReady := rfl
@[simp] theorem setKeyByte_keyValid : (setKeyByte i v s).keyValid = false := rfl
@[simp] theorem setKeyByte_wdrop : (setKeyByte i v s).wdrop = s.wdrop := rfl
@[simp] theorem setKeyByte_errcode : (setKeyByte i v s).errcode = s.errcode := rfl
@[simp] theorem setKeyByte_phase : (setKeyByte i v s).phase = s.phase := rfl
@[simp] theorem setKeyByte_rksel : (setKeyByte i v s).rksel = s.rksel := rfl
@[simp] theorem setKeyByte_obssel : (setKeyByte i v s).obssel = s.obssel := rfl
@[simp] theorem setKeyByte_pending : (setKeyByte i v s).pending = s.pending := rfl
@[simp] theorem setKeyByte_params : (setKeyByte i v s).params = s.params := rfl
@[simp] theorem setKeyByte_agenda : (setKeyByte i v s).agenda = s.agenda := rfl
@[simp] theorem setKeyByte_returned : (setKeyByte i v s).returned = s.returned := rfl
@[simp] theorem setKeyByte_draws : (setKeyByte i v s).draws = s.draws := rfl
@[simp] theorem setKeyByte_fatal : (setKeyByte i v s).fatal = s.fatal := rfl

end

/-! ### setOpa -/

section
variable (v : Byte) (s : State)

@[simp] theorem setOpa_stateReg : (setOpa v s).stateReg = s.stateReg := rfl
@[simp] theorem setOpa_key : (setOpa v s).key = s.key := rfl
@[simp] theorem setOpa_w : (setOpa v s).w = s.w := rfl
@[simp] theorem setOpa_invtab : (setOpa v s).invtab = s.invtab := rfl
@[simp] theorem setOpa_obs : (setOpa v s).obs = s.obs := rfl
@[simp] theorem setOpa_opa : (setOpa v s).opa = v := rfl
@[simp] theorem setOpa_opb : (setOpa v s).opb = s.opb := rfl
@[simp] theorem setOpa_res : (setOpa v s).res = s.res := rfl
@[simp] theorem setOpa_cmd : (setOpa v s).cmd = s.cmd := rfl
@[simp] theorem setOpa_done : (setOpa v s).done = s.done := rfl
@[simp] theorem setOpa_err : (setOpa v s).err = s.err := rfl
@[simp] theorem setOpa_invReady : (setOpa v s).invReady = s.invReady := rfl
@[simp] theorem setOpa_keyValid : (setOpa v s).keyValid = s.keyValid := rfl
@[simp] theorem setOpa_wdrop : (setOpa v s).wdrop = s.wdrop := rfl
@[simp] theorem setOpa_errcode : (setOpa v s).errcode = s.errcode := rfl
@[simp] theorem setOpa_phase : (setOpa v s).phase = s.phase := rfl
@[simp] theorem setOpa_rksel : (setOpa v s).rksel = s.rksel := rfl
@[simp] theorem setOpa_obssel : (setOpa v s).obssel = s.obssel := rfl
@[simp] theorem setOpa_pending : (setOpa v s).pending = s.pending := rfl
@[simp] theorem setOpa_params : (setOpa v s).params = s.params := rfl
@[simp] theorem setOpa_agenda : (setOpa v s).agenda = s.agenda := rfl
@[simp] theorem setOpa_returned : (setOpa v s).returned = s.returned := rfl
@[simp] theorem setOpa_draws : (setOpa v s).draws = s.draws := rfl
@[simp] theorem setOpa_fatal : (setOpa v s).fatal = s.fatal := rfl

end

/-! ### setOpb -/

section
variable (v : Byte) (s : State)

@[simp] theorem setOpb_stateReg : (setOpb v s).stateReg = s.stateReg := rfl
@[simp] theorem setOpb_key : (setOpb v s).key = s.key := rfl
@[simp] theorem setOpb_w : (setOpb v s).w = s.w := rfl
@[simp] theorem setOpb_invtab : (setOpb v s).invtab = s.invtab := rfl
@[simp] theorem setOpb_obs : (setOpb v s).obs = s.obs := rfl
@[simp] theorem setOpb_opa : (setOpb v s).opa = s.opa := rfl
@[simp] theorem setOpb_opb : (setOpb v s).opb = v := rfl
@[simp] theorem setOpb_res : (setOpb v s).res = s.res := rfl
@[simp] theorem setOpb_cmd : (setOpb v s).cmd = s.cmd := rfl
@[simp] theorem setOpb_done : (setOpb v s).done = s.done := rfl
@[simp] theorem setOpb_err : (setOpb v s).err = s.err := rfl
@[simp] theorem setOpb_invReady : (setOpb v s).invReady = s.invReady := rfl
@[simp] theorem setOpb_keyValid : (setOpb v s).keyValid = s.keyValid := rfl
@[simp] theorem setOpb_wdrop : (setOpb v s).wdrop = s.wdrop := rfl
@[simp] theorem setOpb_errcode : (setOpb v s).errcode = s.errcode := rfl
@[simp] theorem setOpb_phase : (setOpb v s).phase = s.phase := rfl
@[simp] theorem setOpb_rksel : (setOpb v s).rksel = s.rksel := rfl
@[simp] theorem setOpb_obssel : (setOpb v s).obssel = s.obssel := rfl
@[simp] theorem setOpb_pending : (setOpb v s).pending = s.pending := rfl
@[simp] theorem setOpb_params : (setOpb v s).params = s.params := rfl
@[simp] theorem setOpb_agenda : (setOpb v s).agenda = s.agenda := rfl
@[simp] theorem setOpb_returned : (setOpb v s).returned = s.returned := rfl
@[simp] theorem setOpb_draws : (setOpb v s).draws = s.draws := rfl
@[simp] theorem setOpb_fatal : (setOpb v s).fatal = s.fatal := rfl

end

/-! ### setRksel -/

section
variable (v : Byte) (s : State)

@[simp] theorem setRksel_stateReg : (setRksel v s).stateReg = s.stateReg := rfl
@[simp] theorem setRksel_key : (setRksel v s).key = s.key := rfl
@[simp] theorem setRksel_w : (setRksel v s).w = s.w := rfl
@[simp] theorem setRksel_invtab : (setRksel v s).invtab = s.invtab := rfl
@[simp] theorem setRksel_obs : (setRksel v s).obs = s.obs := rfl
@[simp] theorem setRksel_opa : (setRksel v s).opa = s.opa := rfl
@[simp] theorem setRksel_opb : (setRksel v s).opb = s.opb := rfl
@[simp] theorem setRksel_res : (setRksel v s).res = s.res := rfl
@[simp] theorem setRksel_cmd : (setRksel v s).cmd = s.cmd := rfl
@[simp] theorem setRksel_done : (setRksel v s).done = s.done := rfl
@[simp] theorem setRksel_err : (setRksel v s).err = s.err := rfl
@[simp] theorem setRksel_invReady : (setRksel v s).invReady = s.invReady := rfl
@[simp] theorem setRksel_keyValid : (setRksel v s).keyValid = s.keyValid := rfl
@[simp] theorem setRksel_wdrop : (setRksel v s).wdrop = s.wdrop := rfl
@[simp] theorem setRksel_errcode : (setRksel v s).errcode = s.errcode := rfl
@[simp] theorem setRksel_phase : (setRksel v s).phase = s.phase := rfl
@[simp] theorem setRksel_rksel : (setRksel v s).rksel = v.extractLsb' 0 4 := rfl
@[simp] theorem setRksel_obssel : (setRksel v s).obssel = s.obssel := rfl
@[simp] theorem setRksel_pending : (setRksel v s).pending = s.pending := rfl
@[simp] theorem setRksel_params : (setRksel v s).params = s.params := rfl
@[simp] theorem setRksel_agenda : (setRksel v s).agenda = s.agenda := rfl
@[simp] theorem setRksel_returned : (setRksel v s).returned = s.returned := rfl
@[simp] theorem setRksel_draws : (setRksel v s).draws = s.draws := rfl
@[simp] theorem setRksel_fatal : (setRksel v s).fatal = s.fatal := rfl

end

/-! ### setObssel -/

section
variable (v : Byte) (s : State)

@[simp] theorem setObssel_stateReg : (setObssel v s).stateReg = s.stateReg := rfl
@[simp] theorem setObssel_key : (setObssel v s).key = s.key := rfl
@[simp] theorem setObssel_w : (setObssel v s).w = s.w := rfl
@[simp] theorem setObssel_invtab : (setObssel v s).invtab = s.invtab := rfl
@[simp] theorem setObssel_obs : (setObssel v s).obs = s.obs := rfl
@[simp] theorem setObssel_opa : (setObssel v s).opa = s.opa := rfl
@[simp] theorem setObssel_opb : (setObssel v s).opb = s.opb := rfl
@[simp] theorem setObssel_res : (setObssel v s).res = s.res := rfl
@[simp] theorem setObssel_cmd : (setObssel v s).cmd = s.cmd := rfl
@[simp] theorem setObssel_done : (setObssel v s).done = s.done := rfl
@[simp] theorem setObssel_err : (setObssel v s).err = s.err := rfl
@[simp] theorem setObssel_invReady : (setObssel v s).invReady = s.invReady := rfl
@[simp] theorem setObssel_keyValid : (setObssel v s).keyValid = s.keyValid := rfl
@[simp] theorem setObssel_wdrop : (setObssel v s).wdrop = s.wdrop := rfl
@[simp] theorem setObssel_errcode : (setObssel v s).errcode = s.errcode := rfl
@[simp] theorem setObssel_phase : (setObssel v s).phase = s.phase := rfl
@[simp] theorem setObssel_rksel : (setObssel v s).rksel = s.rksel := rfl
@[simp] theorem setObssel_obssel : (setObssel v s).obssel = v.extractLsb' 0 4 := rfl
@[simp] theorem setObssel_pending : (setObssel v s).pending = s.pending := rfl
@[simp] theorem setObssel_params : (setObssel v s).params = s.params := rfl
@[simp] theorem setObssel_agenda : (setObssel v s).agenda = s.agenda := rfl
@[simp] theorem setObssel_returned : (setObssel v s).returned = s.returned := rfl
@[simp] theorem setObssel_draws : (setObssel v s).draws = s.draws := rfl
@[simp] theorem setObssel_fatal : (setObssel v s).fatal = s.fatal := rfl

end

/-! ### dropWrite -/

section
variable (s : State)

@[simp] theorem dropWrite_stateReg : (dropWrite s).stateReg = s.stateReg := rfl
@[simp] theorem dropWrite_key : (dropWrite s).key = s.key := rfl
@[simp] theorem dropWrite_w : (dropWrite s).w = s.w := rfl
@[simp] theorem dropWrite_invtab : (dropWrite s).invtab = s.invtab := rfl
@[simp] theorem dropWrite_obs : (dropWrite s).obs = s.obs := rfl
@[simp] theorem dropWrite_opa : (dropWrite s).opa = s.opa := rfl
@[simp] theorem dropWrite_opb : (dropWrite s).opb = s.opb := rfl
@[simp] theorem dropWrite_res : (dropWrite s).res = s.res := rfl
@[simp] theorem dropWrite_cmd : (dropWrite s).cmd = s.cmd := rfl
@[simp] theorem dropWrite_done : (dropWrite s).done = s.done := rfl
@[simp] theorem dropWrite_err : (dropWrite s).err = s.err := rfl
@[simp] theorem dropWrite_invReady : (dropWrite s).invReady = s.invReady := rfl
@[simp] theorem dropWrite_keyValid : (dropWrite s).keyValid = s.keyValid := rfl
@[simp] theorem dropWrite_wdrop : (dropWrite s).wdrop = true := rfl
@[simp] theorem dropWrite_errcode : (dropWrite s).errcode = s.errcode := rfl
@[simp] theorem dropWrite_phase : (dropWrite s).phase = s.phase := rfl
@[simp] theorem dropWrite_rksel : (dropWrite s).rksel = s.rksel := rfl
@[simp] theorem dropWrite_obssel : (dropWrite s).obssel = s.obssel := rfl
@[simp] theorem dropWrite_pending : (dropWrite s).pending = s.pending := rfl
@[simp] theorem dropWrite_params : (dropWrite s).params = s.params := rfl
@[simp] theorem dropWrite_agenda : (dropWrite s).agenda = s.agenda := rfl
@[simp] theorem dropWrite_returned : (dropWrite s).returned = s.returned := rfl
@[simp] theorem dropWrite_draws : (dropWrite s).draws = s.draws := rfl
@[simp] theorem dropWrite_fatal : (dropWrite s).fatal = s.fatal := rfl

end

/-! ### issue -/

section
variable (v : Byte) (s : State)

@[simp] theorem issue_stateReg : (issue v s).stateReg = s.stateReg := rfl
@[simp] theorem issue_key : (issue v s).key = s.key := rfl
@[simp] theorem issue_w : (issue v s).w = s.w := rfl
@[simp] theorem issue_invtab : (issue v s).invtab = s.invtab := rfl
@[simp] theorem issue_obs : (issue v s).obs = s.obs := rfl
@[simp] theorem issue_opa : (issue v s).opa = s.opa := rfl
@[simp] theorem issue_opb : (issue v s).opb = s.opb := rfl
@[simp] theorem issue_res : (issue v s).res = s.res := rfl
@[simp] theorem issue_cmd : (issue v s).cmd = v := rfl
@[simp] theorem issue_done : (issue v s).done = false := rfl
@[simp] theorem issue_err : (issue v s).err = false := rfl
@[simp] theorem issue_invReady : (issue v s).invReady = s.invReady := rfl
@[simp] theorem issue_keyValid : (issue v s).keyValid = s.keyValid := rfl
@[simp] theorem issue_wdrop : (issue v s).wdrop = false := rfl
@[simp] theorem issue_errcode : (issue v s).errcode = 0x00#8 := rfl
@[simp] theorem issue_phase : (issue v s).phase = s.phase := rfl
@[simp] theorem issue_rksel : (issue v s).rksel = s.rksel := rfl
@[simp] theorem issue_obssel : (issue v s).obssel = s.obssel := rfl
@[simp] theorem issue_pending : (issue v s).pending = some v := rfl
@[simp] theorem issue_params : (issue v s).params = s.params := rfl
@[simp] theorem issue_agenda : (issue v s).agenda = s.agenda := rfl
@[simp] theorem issue_returned : (issue v s).returned = s.returned := rfl
@[simp] theorem issue_draws : (issue v s).draws = s.draws := rfl
@[simp] theorem issue_fatal : (issue v s).fatal = s.fatal := rfl

end

/-! ### errorEntry -/

section
variable (e : ErrCode) (s : State)

@[simp] theorem errorEntry_stateReg : (errorEntry e s).stateReg = s.stateReg := rfl
@[simp] theorem errorEntry_key : (errorEntry e s).key = s.key := rfl
@[simp] theorem errorEntry_w : (errorEntry e s).w = s.w := rfl
@[simp] theorem errorEntry_invtab : (errorEntry e s).invtab = s.invtab := rfl
@[simp] theorem errorEntry_obs : (errorEntry e s).obs = s.obs := rfl
@[simp] theorem errorEntry_opa : (errorEntry e s).opa = s.opa := rfl
@[simp] theorem errorEntry_opb : (errorEntry e s).opb = s.opb := rfl
@[simp] theorem errorEntry_res : (errorEntry e s).res = s.res := rfl
@[simp] theorem errorEntry_cmd : (errorEntry e s).cmd = s.cmd := rfl
@[simp] theorem errorEntry_done : (errorEntry e s).done = true := rfl
@[simp] theorem errorEntry_err : (errorEntry e s).err = true := rfl
@[simp] theorem errorEntry_invReady : (errorEntry e s).invReady = s.invReady := rfl
@[simp] theorem errorEntry_keyValid : (errorEntry e s).keyValid = s.keyValid := rfl
@[simp] theorem errorEntry_wdrop : (errorEntry e s).wdrop = s.wdrop := rfl
@[simp] theorem errorEntry_errcode : (errorEntry e s).errcode = errByte e := rfl
@[simp] theorem errorEntry_phase : (errorEntry e s).phase = s.phase := rfl
@[simp] theorem errorEntry_rksel : (errorEntry e s).rksel = s.rksel := rfl
@[simp] theorem errorEntry_obssel : (errorEntry e s).obssel = s.obssel := rfl
@[simp] theorem errorEntry_pending : (errorEntry e s).pending = none := rfl
@[simp] theorem errorEntry_params : (errorEntry e s).params = s.params := rfl
@[simp] theorem errorEntry_agenda : (errorEntry e s).agenda = s.agenda := rfl
@[simp] theorem errorEntry_returned : (errorEntry e s).returned = s.returned := rfl
@[simp] theorem errorEntry_draws : (errorEntry e s).draws = s.draws := rfl
@[simp] theorem errorEntry_fatal : (errorEntry e s).fatal = (s.fatal || decide (e = .invtabNotInit)) := rfl

end

/-! ### finish -/

section
variable (s : State)

@[simp] theorem finish_stateReg : (finish s).stateReg = s.stateReg := rfl
@[simp] theorem finish_key : (finish s).key = s.key := rfl
@[simp] theorem finish_w : (finish s).w = s.w := rfl
@[simp] theorem finish_invtab : (finish s).invtab = s.invtab := rfl
@[simp] theorem finish_obs : (finish s).obs = s.obs := rfl
@[simp] theorem finish_opa : (finish s).opa = s.opa := rfl
@[simp] theorem finish_opb : (finish s).opb = s.opb := rfl
@[simp] theorem finish_res : (finish s).res = s.res := rfl
@[simp] theorem finish_cmd : (finish s).cmd = s.cmd := rfl
@[simp] theorem finish_done : (finish s).done = true := rfl
@[simp] theorem finish_err : (finish s).err = s.err := rfl
@[simp] theorem finish_invReady : (finish s).invReady = s.invReady := rfl
@[simp] theorem finish_keyValid : (finish s).keyValid = s.keyValid := rfl
@[simp] theorem finish_wdrop : (finish s).wdrop = s.wdrop := rfl
@[simp] theorem finish_errcode : (finish s).errcode = s.errcode := rfl
@[simp] theorem finish_phase : (finish s).phase = s.phase := rfl
@[simp] theorem finish_rksel : (finish s).rksel = s.rksel := rfl
@[simp] theorem finish_obssel : (finish s).obssel = s.obssel := rfl
@[simp] theorem finish_pending : (finish s).pending = none := rfl
@[simp] theorem finish_params : (finish s).params = s.params := rfl
@[simp] theorem finish_agenda : (finish s).agenda = s.agenda := rfl
@[simp] theorem finish_returned : (finish s).returned = s.returned := rfl
@[simp] theorem finish_draws : (finish s).draws = s.draws := rfl
@[simp] theorem finish_fatal : (finish s).fatal = s.fatal := rfl

end

/-! ### logRead -/

section
variable (v : Byte) (n : Nat) (s : State)

@[simp] theorem logRead_stateReg : (logRead v n s).stateReg = s.stateReg := rfl
@[simp] theorem logRead_key : (logRead v n s).key = s.key := rfl
@[simp] theorem logRead_w : (logRead v n s).w = s.w := rfl
@[simp] theorem logRead_invtab : (logRead v n s).invtab = s.invtab := rfl
@[simp] theorem logRead_obs : (logRead v n s).obs = s.obs := rfl
@[simp] theorem logRead_opa : (logRead v n s).opa = s.opa := rfl
@[simp] theorem logRead_opb : (logRead v n s).opb = s.opb := rfl
@[simp] theorem logRead_res : (logRead v n s).res = s.res := rfl
@[simp] theorem logRead_cmd : (logRead v n s).cmd = s.cmd := rfl
@[simp] theorem logRead_done : (logRead v n s).done = s.done := rfl
@[simp] theorem logRead_err : (logRead v n s).err = s.err := rfl
@[simp] theorem logRead_invReady : (logRead v n s).invReady = s.invReady := rfl
@[simp] theorem logRead_keyValid : (logRead v n s).keyValid = s.keyValid := rfl
@[simp] theorem logRead_wdrop : (logRead v n s).wdrop = s.wdrop := rfl
@[simp] theorem logRead_errcode : (logRead v n s).errcode = s.errcode := rfl
@[simp] theorem logRead_phase : (logRead v n s).phase = s.phase := rfl
@[simp] theorem logRead_rksel : (logRead v n s).rksel = s.rksel := rfl
@[simp] theorem logRead_obssel : (logRead v n s).obssel = s.obssel := rfl
@[simp] theorem logRead_pending : (logRead v n s).pending = s.pending := rfl
@[simp] theorem logRead_params : (logRead v n s).params = s.params := rfl
@[simp] theorem logRead_agenda : (logRead v n s).agenda = s.agenda := rfl
@[simp] theorem logRead_returned : (logRead v n s).returned = v :: s.returned := rfl
@[simp] theorem logRead_draws : (logRead v n s).draws = n := rfl
@[simp] theorem logRead_fatal : (logRead v n s).fatal = s.fatal := rfl

end

/-! ### setAgenda -/

section
variable (l : List Event) (s : State)

@[simp] theorem setAgenda_stateReg : (setAgenda l s).stateReg = s.stateReg := rfl
@[simp] theorem setAgenda_key : (setAgenda l s).key = s.key := rfl
@[simp] theorem setAgenda_w : (setAgenda l s).w = s.w := rfl
@[simp] theorem setAgenda_invtab : (setAgenda l s).invtab = s.invtab := rfl
@[simp] theorem setAgenda_obs : (setAgenda l s).obs = s.obs := rfl
@[simp] theorem setAgenda_opa : (setAgenda l s).opa = s.opa := rfl
@[simp] theorem setAgenda_opb : (setAgenda l s).opb = s.opb := rfl
@[simp] theorem setAgenda_res : (setAgenda l s).res = s.res := rfl
@[simp] theorem setAgenda_cmd : (setAgenda l s).cmd = s.cmd := rfl
@[simp] theorem setAgenda_done : (setAgenda l s).done = s.done := rfl
@[simp] theorem setAgenda_err : (setAgenda l s).err = s.err := rfl
@[simp] theorem setAgenda_invReady : (setAgenda l s).invReady = s.invReady := rfl
@[simp] theorem setAgenda_keyValid : (setAgenda l s).keyValid = s.keyValid := rfl
@[simp] theorem setAgenda_wdrop : (setAgenda l s).wdrop = s.wdrop := rfl
@[simp] theorem setAgenda_errcode : (setAgenda l s).errcode = s.errcode := rfl
@[simp] theorem setAgenda_phase : (setAgenda l s).phase = s.phase := rfl
@[simp] theorem setAgenda_rksel : (setAgenda l s).rksel = s.rksel := rfl
@[simp] theorem setAgenda_obssel : (setAgenda l s).obssel = s.obssel := rfl
@[simp] theorem setAgenda_pending : (setAgenda l s).pending = s.pending := rfl
@[simp] theorem setAgenda_params : (setAgenda l s).params = s.params := rfl
@[simp] theorem setAgenda_agenda : (setAgenda l s).agenda = l := rfl
@[simp] theorem setAgenda_returned : (setAgenda l s).returned = s.returned := rfl
@[simp] theorem setAgenda_draws : (setAgenda l s).draws = s.draws := rfl
@[simp] theorem setAgenda_fatal : (setAgenda l s).fatal = s.fatal := rfl

end

/-! ### resetStep -/

section
variable (s : State)

@[simp] theorem resetStep_stateReg : (resetStep s).stateReg = (State.resetFor s.params).stateReg := rfl
@[simp] theorem resetStep_key : (resetStep s).key = (State.resetFor s.params).key := rfl
@[simp] theorem resetStep_w : (resetStep s).w = (State.resetFor s.params).w := rfl
@[simp] theorem resetStep_invtab : (resetStep s).invtab = if s.params.invPreloaded then invRom else Vector.replicate 256 Config.unwritten := rfl
@[simp] theorem resetStep_obs : (resetStep s).obs = (State.resetFor s.params).obs := rfl
@[simp] theorem resetStep_opa : (resetStep s).opa = (State.resetFor s.params).opa := rfl
@[simp] theorem resetStep_opb : (resetStep s).opb = (State.resetFor s.params).opb := rfl
@[simp] theorem resetStep_res : (resetStep s).res = (State.resetFor s.params).res := rfl
@[simp] theorem resetStep_cmd : (resetStep s).cmd = 0x00#8 := rfl
@[simp] theorem resetStep_done : (resetStep s).done = false := rfl
@[simp] theorem resetStep_err : (resetStep s).err = false := rfl
@[simp] theorem resetStep_invReady : (resetStep s).invReady = s.params.invPreloaded := rfl
@[simp] theorem resetStep_keyValid : (resetStep s).keyValid = false := rfl
@[simp] theorem resetStep_wdrop : (resetStep s).wdrop = false := rfl
@[simp] theorem resetStep_errcode : (resetStep s).errcode = 0x00#8 := rfl
@[simp] theorem resetStep_phase : (resetStep s).phase = 0x00#8 := rfl
@[simp] theorem resetStep_rksel : (resetStep s).rksel = 0#4 := rfl
@[simp] theorem resetStep_obssel : (resetStep s).obssel = 0#4 := rfl
@[simp] theorem resetStep_pending : (resetStep s).pending = none := rfl
@[simp] theorem resetStep_params : (resetStep s).params = s.params := rfl
@[simp] theorem resetStep_agenda : (resetStep s).agenda = s.agenda := rfl
@[simp] theorem resetStep_returned : (resetStep s).returned = s.returned := rfl
@[simp] theorem resetStep_draws : (resetStep s).draws = s.draws := rfl
@[simp] theorem resetStep_fatal : (resetStep s).fatal = s.fatal := rfl

end

end Sys2Proof.Machine
end

