-- ==== Sys2Proof/Machine/BusNotation.lean ====
section
/-! DEFINITION. The host's notation for programs of bus transactions (30_encoding.md section 3). A program
is the host's, not the core's (10_state.md R39): the machine's step takes its transactions from the agenda.
-/

namespace Sys2Proof.Machine

open Sys2Proof

/-- The bus address of a register by name (20_memory.md R61, 30_encoding.md R99). -/
def addrOf : Loc → Byte
  | .state i => BitVec.ofNat 8 (0x00 + i.val)
  | .key i => BitVec.ofNat 8 (0x10 + i.val)
  | .opa => 0x20#8
  | .opb => 0x21#8
  | .res => 0x22#8
  | .cmd => 0x23#8
  | .status => 0x24#8
  | .errcode => 0x25#8
  | .phase => 0x26#8
  | .rksel => 0x27#8
  | .obssel => 0x28#8
  | .rkwin j => BitVec.ofNat 8 (0x40 + j.val)
  | .obswin j => BitVec.ofNat 8 (0x50 + j.val)
  | .reserved => 0xFF#8

/-- A line of a host program (R99). A label is the position of the line it stands before. -/
inductive HostLine where
  /-- `wr ADDR, DATA`. -/
  | wr (addr data : Byte)
  /-- `rd ADDR`. -/
  | rd (addr : Byte)
  /-- `bnz x, MASK, label`, where x is the byte read last. -/
  | bnz (mask : Byte) (label : Nat)
  /-- The second half of `check`: `if x & MASK ≠ 0 then rd ADDR` (R100). -/
  | rdIf (mask addr : Byte)
  deriving DecidableEq, Repr

/-- What a host does at a line, at position `pos`, having read `x` last: the transaction it makes, if any,
and its next position (R99). -/
def hostMove (line : HostLine) (x : Byte) (pos : Nat) : Option Event × Nat :=
  match line with
  | .wr addr data => (some (.write addr data), pos + 1)
  | .rd addr => (some (.read addr), pos + 1)
  | .bnz mask label => (none, if x &&& mask ≠ 0x00#8 then label else pos + 1)
  | .rdIf mask addr => (if x &&& mask ≠ 0x00#8 then some (.read addr) else none, pos + 1)

/-- The direction of a transaction's binary form (R99). -/
inductive Direction where
  | r
  | w
  deriving DecidableEq, Repr

/-- The binary form of a line: direction, address and, for a write, the data; none for a line that is host
control flow (R99). -/
def binaryForm : HostLine → Option (Direction × List Byte)
  | .wr addr data => some (.w, [addr, data])
  | .rd addr => some (.r, [addr])
  | .bnz _ _ => none
  | .rdIf _ _ => none

/-! ### The pseudo-instructions (R100), each the lines it stands for -/

/-- `issue OP`. -/
def issueLines (i : Instr) : List HostLine := [.wr (addrOf .cmd) (encode i)]

/-- `wait`, standing at position `pos` of its program: poll until BUSY = 0. -/
def waitLines (pos : Nat) : List HostLine := [.rd (addrOf .status), .bnz 0x01#8 pos]

/-- `check`. -/
def checkLines : List HostLine := [.rd (addrOf .status), .rdIf 0x04#8 (addrOf .errcode)]

/-- `ldblk b0 .. b15`. -/
def ldblkLines (b : Block) : List HostLine :=
  (List.finRange 16).map fun i => .wr (addrOf (.state i)) b[i.val]

/-- `ldkey k0 .. k15`. -/
def ldkeyLines (k : Block) : List HostLine :=
  (List.finRange 16).map fun i => .wr (addrOf (.key i)) k[i.val]

/-- `rdblk`. -/
def rdblkLines : List HostLine := (List.finRange 16).map fun i => .rd (addrOf (.state i))

/-- `rdrk r`. -/
def rdrkLines (r : Byte) : List HostLine :=
  .wr (addrOf .rksel) r :: (List.finRange 16).map fun j => .rd (addrOf (.rkwin j))

/-- `rdobs r`. -/
def rdobsLines (r : Byte) : List HostLine :=
  .wr (addrOf .obssel) r :: (List.finRange 16).map fun j => .rd (addrOf (.obswin j))

/-- `op1 OP, a`, standing at position `pos`. -/
def op1Lines (pos : Nat) (i : Instr) (a : Byte) : List HostLine :=
  .wr (addrOf .opa) a :: issueLines i ++ waitLines (pos + 2) ++ [.rd (addrOf .res)]

/-- `op2 OP, a, b`, standing at position `pos`. -/
def op2Lines (pos : Nat) (i : Instr) (a b : Byte) : List HostLine :=
  .wr (addrOf .opa) a :: .wr (addrOf .opb) b ::
    issueLines i ++ waitLines (pos + 3) ++ [.rd (addrOf .res)]

/-- `encrypt pt, key`, standing at position `pos`: the source's `encrypt_block`. -/
def encryptLines (pos : Nat) (pt key : Block) : List HostLine :=
  ldkeyLines key ++ ldblkLines pt ++ issueLines .enck ++ waitLines (pos + 33) ++ rdblkLines

end Sys2Proof.Machine
end

