-- ==== Sys2Proof/Laws/Bus.lean ====
section
/-! SUPPORT. What a bus transaction can do, and the register map read both ways. -/

namespace Sys2Proof.Machine

open Sys2Proof

section
variable (s : State)

theorem busy_eq_true : busy s = true ↔ ∃ c, s.pending = some c := Option.isSome_iff_exists

theorem busy_eq_false : busy s = false ↔ s.pending = none := by
  cases h : s.pending <;> simp [busy, h]

/-- Each named register stands at its address. -/
theorem locate_addrOf (l : Loc) : locate (addrOf l) = l := by
  cases l with
  | state i | key i | rkwin i | obswin i => revert i; decide
  | opa | opb | res | cmd | status | errcode | phase | rksel | obssel | reserved => rfl

/-- The state's registers and the windows at their ranges of addresses. -/
theorem locate_stateByte (i : Fin 16) : locate (BitVec.ofNat 8 i.val) = .state i := by revert i; decide
theorem locate_keyByte (i : Fin 16) : locate (BitVec.ofNat 8 (0x10 + i.val)) = .key i := by
  revert i; decide
theorem locate_rkwinByte (i : Fin 16) : locate (BitVec.ofNat 8 (0x40 + i.val)) = .rkwin i := by
  revert i; decide
theorem locate_obswinByte (i : Fin 16) : locate (BitVec.ofNat 8 (0x50 + i.val)) = .obswin i := by
  revert i; decide

/-! ### Reads -/

@[simp] theorem unspecified_idle {s : State} (h : s.pending = none) (l : Loc) : unspecified s l = false := by
  simp [unspecified, h]

/-- While a command is in flight, exactly the reads of its write set are unspecified. -/
theorem unspecified_busy {s : State} {c : Byte} {i : Instr} (h : s.pending = some c) (hd : decode c = .ok i)
    (l : Loc) : unspecified s l = inWriteSet i l := by simp [unspecified, h, hd]

/-- While an illegal byte is in flight, no read is unspecified. -/
theorem unspecified_illegal {s : State} {c : Byte} {why : Illegal} (h : s.pending = some c)
    (hd : decode c = .illegal why) (l : Loc) : unspecified s l = false := by simp [unspecified, h, hd]

theorem memRead_exact {a : Byte} {s : State} (h : unspecified s (locate a) = false) :
    memRead a s = logRead (regRead s (locate a)) s.draws s := by simp [memRead, h]

theorem memRead_free {a : Byte} {s : State} (h : unspecified s (locate a) = true) :
    memRead a s = logRead (freeByte s.draws (locate a)) (s.draws + 1) s := by simp [memRead, h]

/-- All that a read can do: give the host one byte. -/
theorem memRead_cases (a : Byte) : ∃ v n, memRead a s = logRead v n s := by
  unfold memRead
  split
  · exact ⟨_, _, rfl⟩
  · exact ⟨_, _, rfl⟩

/-- What stands on the bus does not depend on what the host has read. -/
@[simp] theorem regRead_logRead (v : Byte) (n : Nat) (l : Loc) : regRead (logRead v n s) l = regRead s l := by
  cases l <;> rfl

@[simp] theorem regRead_setAgenda (m : List Event) (l : Loc) : regRead (setAgenda m s) l = regRead s l := by
  cases l <;> rfl

@[simp] theorem unspecified_setAgenda (m : List Event) (l : Loc) :
    unspecified (setAgenda m s) l = unspecified s l := rfl

@[simp] theorem busy_setAgenda (m : List Event) : busy (setAgenda m s) = busy s := rfl

/-! ### Writes -/

theorem memWrite_busy {s : State} (h : busy s = true) (a v : Byte) : memWrite a v s = dropWrite s := by
  simp [memWrite, h]

theorem memWrite_idle {s : State} (h : busy s = false) (a v : Byte) :
    memWrite a v s = regWrite v s (locate a) := by simp [memWrite, h]

/-- All that a write can do. -/
theorem memWrite_cases (a v : Byte) :
    (busy s = true ∧ memWrite a v s = dropWrite s) ∨
      (busy s = false ∧ memWrite a v s = regWrite v s (locate a)) := by
  cases h : busy s
  · exact .inr ⟨rfl, memWrite_idle h a v⟩
  · exact .inl ⟨rfl, memWrite_busy h a v⟩

/-- All that an accepted write can do. -/
theorem regWrite_cases (v : Byte) (l : Loc) :
    regWrite v s l = s ∨ (∃ i, l = .state i ∧ regWrite v s l = setStateByte i v s) ∨
      (∃ i, l = .key i ∧ regWrite v s l = setKeyByte i v s) ∨ (l = .opa ∧ regWrite v s l = setOpa v s) ∨
      (l = .opb ∧ regWrite v s l = setOpb v s) ∨ (l = .cmd ∧ regWrite v s l = issue v s) ∨
      (l = .rksel ∧ regWrite v s l = setRksel v s) ∨ (l = .obssel ∧ regWrite v s l = setObssel v s) := by
  cases l <;> simp [regWrite]

end

end Sys2Proof.Machine
end

