-- ==== Sys2Proof/Laws/Exec.lean ====
section
/-! SUPPORT. What each shared operation of a command can do: the check, the completion, and the execution of
any command as the two together. -/

namespace Sys2Proof.Machine

open Sys2Proof

section
variable {s t : State} {i : Instr}

/-! ### The completion -/

@[simp] theorem complete_none (p s : State) : complete none p s = .next (finish p) := rfl

@[simp] theorem complete_some (e : ErrCode) (p s : State) :
    complete (some e) p s = .next (errorEntry e s) := rfl

theorem complete_cases {found : Option ErrCode} {p : State} (h : complete found p s = .next t) :
    (found = none ∧ t = finish p) ∨ ∃ e, found = some e ∧ t = errorEntry e s := by
  cases found with
  | none => exact .inl ⟨rfl, (Host.Outcome.next.inj h).symm⟩
  | some e => exact .inr ⟨e, rfl, (Host.Outcome.next.inj h).symm⟩

/-! ### The check, command by command (60_exceptions.md R246) -/

@[simp] theorem check_nop (s : State) : check .nop s = none := rfl
@[simp] theorem check_add (s : State) : check .add s = none := rfl
@[simp] theorem check_mulx (s : State) : check .mulx s = none := rfl
@[simp] theorem check_mulxn (n : Nat) (s : State) : check (.mulxn n) s = none := rfl
@[simp] theorem check_mul (s : State) : check .mul s = none := rfl
@[simp] theorem check_initinv (s : State) : check .initinv s = none := rfl
@[simp] theorem check_shr (s : State) : check .shr s = none := rfl
@[simp] theorem check_mix (s : State) : check .mix s = none := rfl

@[simp] theorem check_inv (s : State) :
    check .inv s = if s.invReady then none else some .invtabNotInit := by
  cases h : s.invReady <;> simp [check, readsTable, readsSelector, readsSchedule, h]

@[simp] theorem check_sbox (s : State) :
    check .sbox s = if s.invReady then none else some .invtabNotInit := by
  cases h : s.invReady <;> simp [check, readsTable, readsSelector, readsSchedule, h]

@[simp] theorem check_keyexp (s : State) :
    check .keyexp s = if s.invReady then none else some .invtabNotInit := by
  cases h : s.invReady <;> simp [check, readsTable, readsSelector, readsSchedule, h]

@[simp] theorem check_sub (s : State) :
    check .sub s = if s.invReady then none else some .invtabNotInit := by
  cases h : s.invReady <;> simp [check, readsTable, readsSelector, readsSchedule, h]

@[simp] theorem check_enck (s : State) :
    check .enck s = if s.invReady then none else some .invtabNotInit := by
  cases h : s.invReady <;> simp [check, readsTable, readsSelector, readsSchedule, h]

@[simp] theorem check_ark (s : State) :
    check .ark s =
      if s.rksel.toNat ≤ 10 then (if s.keyValid then none else some .noKey) else some .badIndex := by
  by_cases hx : s.rksel.toNat ≤ 10 <;> cases h : s.keyValid <;>
    simp [check, readsTable, readsSelector, readsSchedule, selects, hx, h]

@[simp] theorem check_enc (s : State) :
    check .enc s =
      if s.invReady then (if s.keyValid then none else some .noKey) else some .invtabNotInit := by
  cases h : s.keyValid <;> cases h' : s.invReady <;>
    simp [check, readsTable, readsSelector, readsSchedule, h, h']

/-- A check that passed: what a command reads is there. -/
theorem check_none (h : check i s = none) :
    (readsTable i = true → s.invReady = true) ∧ (readsSelector i = true → s.rksel.toNat ≤ 10) ∧
      (readsSchedule i = true → s.keyValid = true) := by
  unfold check at h
  split at h
  · cases h
  split at h
  · cases h
  split at h
  · cases h
  simp_all [selects]

/-- A check never reports an illegal byte, and reports the table's error only while it is not valid. -/
theorem check_some {e : ErrCode} (h : check i s = some e) :
    e ≠ .illegalCmd ∧ (e = .invtabNotInit → s.invReady = false) := by
  unfold check at h
  split at h
  · cases h; simp_all
  split at h
  · cases h; simp
  split at h
  · cases h; simp
  · cases h

/-! ### Execution -/

/-- The state that a command's own rule gives, before DONE and PENDING are written. -/
def performed : Instr → State → State
  | .nop, s => s
  | .add, s => setRes (gadd (operandA s) (operandB s)) s
  | .mulx, s => setRes (xtime (operandA s)) s
  | .mulxn n, s => setRes (xtimes (operandA s) n) s
  | .mul, s => setRes (gmul (operandA s) (operandB s)) s
  | .inv, s => setRes (tableEntry s.invtab (operandA s)) s
  | .sbox, s => setRes (sbox s.invtab (operandA s)) s
  | .initinv, s => if s.invReady then s else setTable buildInv s
  | .keyexp, s => expandKey s
  | .ark, s => setStateReg (addRoundKey s.stateReg (operandRoundKey s)) s
  | .sub, s => setStateReg (subBytes s.invtab s.stateReg) s
  | .shr, s => setStateReg (shiftRows s.stateReg) s
  | .mix, s => setStateReg (mixColumns s.stateReg) s
  | .enc, s => encrypt s
  | .enck, s => encrypt (expandKey s)

/-- Every command is its check, then its own rule. -/
theorem exec_eq (i : Instr) (s : State) : exec i s = complete (check i s) (performed i s) s := by
  cases i <;> rfl

/-- A command whose check passes is performed. -/
theorem exec_ok (h : check i s = none) : exec i s = .next (finish (performed i s)) := by
  rw [exec_eq, h, complete_none]

/-- A command whose check fails reports the error. -/
theorem exec_error {e : ErrCode} (h : check i s = some e) : exec i s = .next (errorEntry e s) := by
  rw [exec_eq, h, complete_some]

/-- All that a command can do. -/
theorem exec_cases (h : exec i s = .next t) :
    (check i s = none ∧ t = finish (performed i s)) ∨ ∃ e, check i s = some e ∧ t = errorEntry e s :=
  complete_cases (exec_eq i s ▸ h)

/-- All that a command's own rule can write: one of the engine's writes. -/
theorem performed_cases (i : Instr) (s : State) :
    performed i s = s ∨ (writesRes i = true ∧ ∃ v, performed i s = setRes v s) ∨
      (writesState i = true ∧ writesSnapshots i = false ∧ ∃ b, performed i s = setStateReg b s) ∨
      (i = .initinv ∧ s.invReady = false ∧ performed i s = setTable buildInv s) ∨
      (i = .keyexp ∧ performed i s = expandKey s) ∨ (i = .enc ∧ performed i s = encrypt s) ∨
      (i = .enck ∧ performed i s = encrypt (expandKey s)) := by
  cases i with
  | initinv => cases h : s.invReady <;> simp [performed, h]
  | nop => exact .inl rfl
  | add | mulx | mulxn | mul | inv | sbox => exact .inr (.inl ⟨rfl, _, rfl⟩)
  | ark | sub | shr | mix => exact .inr (.inr (.inl ⟨rfl, rfl, _, rfl⟩))
  | keyexp | enc | enck => simp [performed]

end

end Sys2Proof.Machine
end

