-- ==== Sys2Proof/Laws/Engine.lean ====
section
/-! SUPPORT. What a step can do, said once. -/

namespace Sys2Proof.Machine

open Sys2Proof

section
variable {s t : State} {c : Byte} {i : Instr}

theorem completeByte_ok (h : decode c = .ok i) (s : State) : completeByte c s = exec i s := by
  simp [completeByte, h]

theorem completeByte_illegal {why : Illegal} (h : decode c = .illegal why) (s : State) :
    completeByte c s = .next (errorEntry .illegalCmd s) := by simp [completeByte, h]

/-- All that a completion can do. -/
theorem completeByte_cases (h : completeByte c s = .next t) :
    (∃ i, decode c = .ok i ∧ exec i s = .next t) ∨
      (∃ why, decode c = .illegal why) ∧ t = errorEntry .illegalCmd s := by
  cases hd : decode c with
  | ok i => exact .inl ⟨i, rfl, completeByte_ok hd s ▸ h⟩
  | illegal why =>
    rw [completeByte_illegal hd] at h
    exact .inr ⟨⟨why, rfl⟩, (Host.Outcome.next.inj h).symm⟩

theorem engineStep_idle (h : s.pending = none) : engineStep s = .next s := by simp [engineStep, h]

theorem engineStep_busy (h : s.pending = some c) : engineStep s = completeByte c s := by
  simp [engineStep, h]

/-- All that the engine's move can do. -/
theorem engineStep_cases (h : engineStep s = .next t) :
    (s.pending = none ∧ t = s) ∨ ∃ c, s.pending = some c ∧ completeByte c s = .next t := by
  cases hp : s.pending with
  | none => exact .inl ⟨rfl, (Host.Outcome.next.inj (engineStep_idle hp ▸ h)).symm⟩
  | some c => exact .inr ⟨c, rfl, engineStep_busy hp ▸ h⟩

/-- All that a step can do: the engine moves alone, or the agenda's first event happens. -/
theorem step_cases (h : step s = .next t) :
    (s.agenda = [] ∧ engineStep s = .next t) ∨ ∃ rest,
      (∃ a, s.agenda = .read a :: rest ∧ t = memRead a (setAgenda rest s)) ∨
      (∃ a v, s.agenda = .write a v :: rest ∧ t = memWrite a v (setAgenda rest s)) ∨
      (s.agenda = .complete :: rest ∧ engineStep (setAgenda rest s) = .next t) ∨
      (s.agenda = .reset :: rest ∧ t = resetStep (setAgenda rest s)) := by
  unfold step nextMove at h
  cases ha : s.agenda with
  | nil => exact .inl ⟨rfl, by simpa [ha] using h⟩
  | cons e rest =>
    rw [ha] at h
    refine .inr ⟨rest, ?_⟩
    cases e with
    | read a => exact .inl ⟨a, rfl, (Host.Outcome.next.inj h).symm⟩
    | write a v => exact .inr (.inl ⟨a, v, rfl, (Host.Outcome.next.inj h).symm⟩)
    | complete => exact .inr (.inr (.inl ⟨rfl, h⟩))
    | reset => exact .inr (.inr (.inr ⟨rfl, (Host.Outcome.next.inj h).symm⟩))

theorem step_of_agenda_nil (h : s.agenda = []) : step s = engineStep s := by simp [step, nextMove, h]

theorem step_of_agenda_cons {e : Event} {rest : List Event} (h : s.agenda = e :: rest) :
    step s = runEvent e (setAgenda rest s) := by simp [step, nextMove, h]

/-- A run of one step more, from a step that is known. -/
theorem run_succ (h : step s = .next t) (k : Nat) :
    Host.Core.run Sys2Proof.core (k + 1) s = Host.Core.run Sys2Proof.core k t := by
  simp [Host.Core.run, Sys2Proof.core, h]

/-- The command that `withFetchWord` places is the one the next step completes, in the state its issue gives. -/
theorem step_withFetchWord {n w : Nat} (h : decodeTableWord n w = some i) :
    step (s.withFetchWord n w) = exec i (issue (tableByte n w) s) := by
  have hd : decode (tableByte n w) = .ok i := by
    unfold decodeTableWord at h
    cases hc : decode (tableByte n w) <;> rw [hc] at h <;> simp [Decoded.instr?] at h
    rw [h]
  cases ha : s.agenda with
  | nil =>
    have hw : s.withFetchWord n w = issue (tableByte n w) s := by
      simp [State.withFetchWord, placeCommand, ha]
    rw [hw, step_of_agenda_nil (by simpa using ha), engineStep_busy (issue_pending _ _), completeByte_ok hd]
  | cons e rest =>
    have hw : s.withFetchWord n w = setAgenda (.complete :: s.agenda) (issue (tableByte n w) s) := by
      simp [State.withFetchWord, placeCommand, ha]
    have hs : setAgenda s.agenda (setAgenda (.complete :: s.agenda) (issue (tableByte n w) s)) =
        issue (tableByte n w) s := rfl
    rw [hw, step_of_agenda_cons (setAgenda_agenda _ _), runEvent, hs,
      engineStep_busy (issue_pending _ _), completeByte_ok hd]

end

end Sys2Proof.Machine
end

