-- ==== Sys2Proof/Laws/PerInstr.lean ====
section
/-! SUPPORT. A statement about every command as syntax, one lemma per constructor: its byte is legal. -/

namespace Sys2Proof.Laws

/-- The command byte of a well-formed command is legal (30_encoding.md R95). -/
def EncodesLegal.Statement (i : Instr) : Prop := wellFormed i = true → legal (encode i) = true

namespace EncodesLegal

theorem nop : Statement .nop := fun _ => by decide
theorem add : Statement .add := fun _ => by decide
theorem mulx : Statement .mulx := fun _ => by decide

theorem mulxn (n : Nat) : Statement (.mulxn n) := fun h => by
  have hn : n < 8 := Nat.lt_succ_of_le (of_decide_eq_true h)
  exact (by decide : ∀ m : Fin 8, legal (encode (.mulxn m.val)) = true) ⟨n, hn⟩

theorem mul : Statement .mul := fun _ => by decide
theorem inv : Statement .inv := fun _ => by decide
theorem sbox : Statement .sbox := fun _ => by decide
theorem initinv : Statement .initinv := fun _ => by decide
theorem keyexp : Statement .keyexp := fun _ => by decide
theorem ark : Statement .ark := fun _ => by decide
theorem sub : Statement .sub := fun _ => by decide
theorem shr : Statement .shr := fun _ => by decide
theorem mix : Statement .mix := fun _ => by decide
theorem enc : Statement .enc := fun _ => by decide
theorem enck : Statement .enck := fun _ => by decide

end EncodesLegal

end Sys2Proof.Laws
end

