-- ==== Sys2Proof/Tests/Slice0.lean ====
section
/-! SUPPORT. Tests of the model on the spec's own vectors (95_test_vectors.md and the rules' examples), and for
each statement of Certificates/Slice0/Obligations.lean that has hypotheses a state and operands that meet
them. -/

namespace Sys2Proof.Tests

open Sys2Proof Sys2Proof.Machine

/-- The state a step answered; the state after reset where it answered none. -/
def after (o : Host.Outcome State Fault Refusal) : State :=
  match o with
  | .next s => s
  | .fault _ => State.reset
  | .refused _ => State.reset

/-- After reset, with OPA and OPB written. -/
def operands (a b : Byte) : State := { State.reset with opa := a, opb := b }

/-- The key and the plaintext of vector L1-7. -/
def fipsKey : Block := #v[0x00, 0x01, 0x02, 0x03, 0x04, 0x05, 0x06, 0x07, 0x08, 0x09, 0x0A, 0x0B, 0x0C, 0x0D,
  0x0E, 0x0F]
def fipsBlock : Block := #v[0x00, 0x11, 0x22, 0x33, 0x44, 0x55, 0x66, 0x77, 0x88, 0x99, 0xAA, 0xBB, 0xCC, 0xDD,
  0xEE, 0xFF]

/-- After reset, with KEY and STATE written. -/
def loaded : State := { State.reset with key := fipsKey, stateReg := fipsBlock }

/-- A part whose table is not preloaded, after reset. -/
def bare : State := State.resetFor ⟨false⟩

/-! ### Well-formedness: the one check refuses a count that the field N cannot hold (R92) -/

theorem test_wellFormed_refuses_count_8 : wellFormed (.mulxn 8) = false := by decide
theorem test_wellFormed_accepts_count_7 : wellFormed (.mulxn 7) = true := by decide

/-! ### Decoding: each command's byte written out from the opcode map (R94), and reserved bytes (R97) -/

theorem test_decode_nop : decode 0b00000000#8 = .ok .nop := by decide
theorem test_decode_add : decode 0b00000001#8 = .ok .add := by decide
theorem test_decode_mulx : decode 0b00000010#8 = .ok .mulx := by decide
theorem test_decode_mulxn_0 : decode 0b00000011#8 = .ok (.mulxn 0) := by decide
theorem test_decode_mulxn_5 : decode 0b01010011#8 = .ok (.mulxn 5) := by decide
theorem test_decode_mul : decode 0b00000100#8 = .ok .mul := by decide
theorem test_decode_inv : decode 0b00000101#8 = .ok .inv := by decide
theorem test_decode_sbox : decode 0b00000110#8 = .ok .sbox := by decide
theorem test_decode_initinv : decode 0b00000111#8 = .ok .initinv := by decide
theorem test_decode_keyexp : decode 0b00001000#8 = .ok .keyexp := by decide
theorem test_decode_ark : decode 0b00001001#8 = .ok .ark := by decide
theorem test_decode_sub : decode 0b00001010#8 = .ok .sub := by decide
theorem test_decode_shr : decode 0b00001011#8 = .ok .shr := by decide
theorem test_decode_mix : decode 0b00001100#8 = .ok .mix := by decide
theorem test_decode_enc : decode 0b00001101#8 = .ok .enc := by decide
theorem test_decode_enck : decode 0b00001110#8 = .ok .enck := by decide

/-- L2-E: 0x0F, 0x12, 0x83, 0xFF, 0x7F and 0x10 are illegal. -/
theorem test_decode_illegal :
    decode 0x0F#8 = .illegal .reservedOp ∧ decode 0x12#8 = .illegal .countNotZero ∧
      decode 0x83#8 = .illegal .reservedBit ∧ decode 0xFF#8 = .illegal .reservedBit ∧
      decode 0x7F#8 = .illegal .reservedOp ∧ decode 0x10#8 = .illegal .countNotZero := by decide

theorem test_decodeTableWord : decodeTableWord 8 0x33 = some (.mulxn 3) ∧ decodeTableWord 8 0x0F = none := by
  decide

/-! ### Field arithmetic (L2-F) -/

theorem test_add : (after (exec .add (operands 0xFF 0x0F))).res = 0xF0#8 := by decide
theorem test_mulx_reduces : (after (exec .mulx (operands 0xAE 0x00))).res = 0x47#8 := by decide
theorem test_mulx_no_reduction : (after (exec .mulx (operands 0x40 0x00))).res = 0x80#8 := by decide
theorem test_mulxn_7 : (after (exec (.mulxn 7) (operands 0xFF 0x00))).res = 0x65#8 := by decide
theorem test_mulxn_0 : (after (exec (.mulxn 0) (operands 0x57 0x00))).res = 0x57#8 := by decide
theorem test_mul : (after (exec .mul (operands 0x57 0x13))).res = 0xFE#8 := by decide
theorem test_mul_other : (after (exec .mul (operands 0x0E 0x0B))).res = 0x62#8 := by decide

/-! ### Inverse table and S-box (L2-I, L2-S) -/

theorem test_inv : (after (exec .inv (operands 0x80 0x00))).res = 0x83#8 := by decide
theorem test_inv_not_ready :
    (after (exec .inv bare)).errcode = 0x02#8 ∧ (after (exec .inv bare)).fatal = true := by decide
theorem test_sbox : (after (exec .sbox (operands 0x1C 0x00))).res = 0x9C#8 := by decide

/-- INITINV on a part without a ROM makes its table the ROM's: the last row of R152. -/
theorem test_initinv_builds :
    (List.range 16).map (fun k => tableEntry (after (exec .initinv bare)).invtab (BitVec.ofNat 8 (0xF0 + k))) =
      [0x5B, 0x23, 0x38, 0x34, 0x68, 0x46, 0x03, 0x8C, 0xDD, 0x9C, 0x7D, 0xA0, 0xCD, 0x1A, 0x41, 0x1C] := by
  decide +kernel

/-- INITINV with a preloaded table: STATUS 0x08 becomes 0x0A and the table stays. -/
theorem test_initinv_ready :
    statusByte (after (exec .initinv State.reset)) = 0x0A#8 ∧
      (after (exec .initinv State.reset)).invtab = invRom := ⟨by decide, rfl⟩

/-- Rows 0 and F of the S-box table (R172). -/
theorem test_sbox_rows :
    (List.range 16).map (fun k => sbox invRom (BitVec.ofNat 8 k)) =
      [0x63, 0x7C, 0x77, 0x7B, 0xF2, 0x6B, 0x6F, 0xC5, 0x30, 0x01, 0x67, 0x2B, 0xFE, 0xD7, 0xAB, 0x76] ∧
    (List.range 16).map (fun k => sbox invRom (BitVec.ofNat 8 (0xF0 + k))) =
      [0x8C, 0xA1, 0x89, 0x0D, 0xBF, 0xE6, 0x42, 0x68, 0x41, 0x99, 0x2D, 0x0F, 0xB0, 0x54, 0xBB, 0x16] := by
  decide +kernel

/-! ### Key schedule (L2-KS1) -/

theorem test_keyexp :
    roundKey (after (exec .keyexp loaded)).w 1 =
        #v[0xD6, 0xAA, 0x74, 0xFD, 0xD2, 0xAF, 0x72, 0xFA, 0xDA, 0xA6, 0x78, 0xF1, 0xD6, 0xAB, 0x76, 0xFE] ∧
      roundKey (after (exec .keyexp loaded)).w 10 =
        #v[0x13, 0x11, 0x1D, 0x7F, 0xE3, 0x94, 0x4A, 0x17, 0xF3, 0x07, 0xA7, 0x8B, 0x4D, 0x2B, 0x30, 0xC5] := by
  decide +kernel

theorem test_keyexp_valid : statusByte (after (exec .keyexp loaded)) = 0x1A#8 := by decide

/-! ### Round transforms and block commands (L2-R, L2-ENC) -/

theorem test_ark :
    (after (exec .ark (after (exec .keyexp loaded)))).stateReg =
      #v[0x00, 0x10, 0x20, 0x30, 0x40, 0x50, 0x60, 0x70, 0x80, 0x90, 0xA0, 0xB0, 0xC0, 0xD0, 0xE0, 0xF0] := by
  decide +kernel

theorem test_ark_errors :
    (after (exec .ark State.reset)).errcode = 0x03#8 ∧
      (after (exec .ark { State.reset with rksel := 0xC#4 })).errcode = 0x04#8 := by decide

theorem test_sub :
    (after (exec .sub { State.reset with
      stateReg := #v[0x00, 0x10, 0x20, 0x30, 0x40, 0x50, 0x60, 0x70, 0x80, 0x90, 0xA0, 0xB0, 0xC0, 0xD0, 0xE0,
        0xF0] })).stateReg =
      #v[0x63, 0xCA, 0xB7, 0x04, 0x09, 0x53, 0xD0, 0x51, 0xCD, 0x60, 0xE0, 0xE7, 0xBA, 0x70, 0xE1, 0x8C] := by
  decide +kernel

theorem test_shr :
    (after (exec .shr { State.reset with
      stateReg := #v[0x63, 0xCA, 0xB7, 0x04, 0x09, 0x53, 0xD0, 0x51, 0xCD, 0x60, 0xE0, 0xE7, 0xBA, 0x70, 0xE1,
        0x8C] })).stateReg =
      #v[0x63, 0x53, 0xE0, 0x8C, 0x09, 0x60, 0xE1, 0x04, 0xCD, 0x70, 0xB7, 0x51, 0xBA, 0xCA, 0xD0, 0xE7] := by
  decide +kernel

theorem test_mix :
    (after (exec .mix { State.reset with
      stateReg := #v[0x63, 0x53, 0xE0, 0x8C, 0x09, 0x60, 0xE1, 0x04, 0xCD, 0x70, 0xB7, 0x51, 0xBA, 0xCA, 0xD0,
        0xE7] })).stateReg =
      #v[0x5F, 0x72, 0x64, 0x15, 0x57, 0xF5, 0xBC, 0x92, 0xF7, 0xBE, 0x3B, 0x29, 0x1D, 0xB9, 0xF9, 0x1A] := by
  decide +kernel

/-- MixColumns on a single column: d4d4d4d5 and 2d26314c. -/
theorem test_mixColumn :
    mixColumn 0xD4 0xD4 0xD4 0xD5 = #v[0xD5, 0xD5, 0xD7, 0xD6] ∧
      mixColumn 0x2D 0x26 0x31 0x4C = #v[0x4D, 0x7E, 0xBD, 0xF8] := by decide +kernel

/-- L1-7, the FIPS-197 example: the source's ciphertext. -/
theorem test_enck_fips :
    (after (exec .enck loaded)).stateReg =
      #v[0x69, 0xC4, 0xE0, 0xD8, 0x6A, 0x7B, 0x04, 0x30, 0xD8, 0xCD, 0xB7, 0x80, 0x70, 0xB4, 0xC5, 0x5A] := by
  decide +kernel

theorem test_enck_flags :
    statusByte (after (exec .enck loaded)) = 0x1A#8 ∧ (after (exec .enck loaded)).phase = 0x0B#8 := by decide

theorem test_enc_no_key : (after (exec .enc loaded)).errcode = 0x03#8 := by decide

/-- INVTAB_NOT_INIT comes before NO_KEY (P5, line 10). -/
theorem test_enc_order : (after (exec .enc bare)).errcode = 0x02#8 := by decide

theorem test_nop :
    statusByte (after (exec .nop (issue 0x00 { State.reset with err := true, errcode := 0x03 }))) = 0x0A#8 := by
  decide

/-! ### The bus (L2-B) -/

theorem test_status_at_reset : statusByte State.reset = 0x08#8 ∧ statusByte bare = 0x00#8 := by decide

/-- `wr CMD, ADD` after an error: ERR and DONE cleared at the issue, BUSY set. -/
theorem test_issue_clears :
    statusByte (after (step { State.reset with
      err := true, done := true, errcode := 0x01, agenda := [.write 0x23 0x01] })) = 0x09#8 := by decide

/-- `wr OPA, 0x55` while MUL is in flight, then its completion: WDROP, OPA unchanged. -/
theorem test_write_while_busy :
    let s := after (step (after (step { issue 0x04 (operands 0x11 0x00) with
      agenda := [.write 0x20 0x55, .complete] })))
    statusByte s = 0x2A#8 ∧ s.opa = 0x11#8 := by decide

theorem test_selector_mask :
    (after (step { State.reset with agenda := [.write 0x27 0xF3] })).rksel = 0x3#4 ∧
      (after (step { State.reset with agenda := [.write 0x28 0x1C] })).obssel = 0xC#4 := by decide

theorem test_window_out_of_range :
    (after (step { State.reset with rksel := 0xC#4, w := Vector.replicate 176 0xAA, agenda := [.read 0x40] })).returned
      = [0x00#8] := by decide

theorem test_reserved_address :
    (after (step (after (step { State.reset with agenda := [.write 0x30 0xAA, .read 0x30] })))).returned
      = [0x00#8] := by decide

theorem test_key_write :
    let s := after (step { State.reset with keyValid := true, done := true, agenda := [.write 0x17 0x00] })
    statusByte s = 0x0A#8 := by decide

/-- 0x83 completes with ILLEGAL_CMD and stays in CMD. -/
theorem test_illegal_byte :
    let s := after (step (after (step { State.reset with agenda := [.write 0x23 0x83, .complete] })))
    s.cmd = 0x83#8 ∧ s.errcode = 0x01#8 ∧ statusByte s = 0x0E#8 := by decide

theorem test_reset_abandons :
    let s := after (step { issue 0x0E loaded with agenda := [.reset] })
    s.pending = none ∧ statusByte s = 0x08#8 := by decide

/-- `wr CMD, MULXN 3` is the transaction `W 23 33` (R99). -/
theorem test_binary_form :
    (issueLines (.mulxn 3)).map binaryForm = [some (.w, [0x23#8, 0x33#8])] := by decide

theorem test_placed_command :
    (after (step ((operands 0x57 0x83).withFetchWord 8 0x04))).res = 0xC1#8 := by decide

/-! ### Witnesses: for each statement with hypotheses, a state and operands that meet them -/

theorem witness_DecodeOfEncode : wellFormed (.mulxn 7) = true ∧ wellFormed .enck = true := by decide

theorem witness_LegalByteIsOneCommand :
    decode 0x73#8 = .ok (.mulxn 7) ∧ decode 0x00#8 = .ok .nop ∧ decode 0x0E#8 = .ok .enck := by decide

theorem witness_DecoderSelectsByOp : legal 0x0F#8 = false ∧ legal 0x73#8 = true := by decide

theorem witness_StepRunsPendingCommand :
    (∃ s : State, s.pending = some 0x01#8 ∧ decode 0x01#8 = .ok .add ∧ s.agenda = []) ∧
    (∃ s : State, s.pending = some 0x01#8 ∧ decode 0x01#8 = .ok .add ∧ s.agenda = .complete :: [.reset]) ∧
    (∃ s : State, s.pending = none ∧ s.agenda = []) ∧
    (∃ s : State, s.pending = none ∧ s.agenda = .complete :: []) :=
  ⟨⟨issue 0x01 State.reset, rfl, by decide, rfl⟩,
    ⟨{ issue 0x01 State.reset with agenda := [.complete, .reset] }, rfl, by decide, rfl⟩,
    ⟨State.reset, rfl, rfl⟩, ⟨{ State.reset with agenda := [.complete] }, rfl, rfl⟩⟩

/-- One byte for each of the three causes. -/
theorem witness_IllegalByteIsReported :
    (0x83#8).getLsbD 7 = true ∧ (0x0F#8).extractLsb' 0 4 = 0xF#4 ∧
    ((0x12#8).extractLsb' 4 3 ≠ 0#3 ∧ (0x12#8).extractLsb' 0 4 ≠ 0x3#4) ∧
    ∃ s : State, s.pending = none ∧ s.agenda = .write 0x23#8 0x83#8 :: .complete :: [] :=
  ⟨by decide, by decide, by decide,
    ⟨{ State.reset with agenda := [.write 0x23 0x83, .complete] }, rfl, rfl⟩⟩

/-- The invariant holds of a state that is not the reset state: a command is in flight. -/
theorem witness_StepKeepsConsistent : ∃ s t : State, Consistent s ∧ busy s = true ∧ step s = .next t :=
  ⟨issue 0x01 bare, after (step (issue 0x01 bare)),
    { tableValid := fun h => by simp [bare, State.resetFor] at h
      romReady := fun h => by simp [bare, State.resetFor] at h
      romSafe := fun _ => rfl
      scheduleValid := fun h => by simp [bare, State.resetFor] at h
      scheduleNeedsTable := fun h => by simp [bare, State.resetFor] at h
      noErrorCode := fun _ => rfl
      errorCode := fun h => by simp at h
      errorDone := fun h => by simp at h
      busyFlags := fun _ => ⟨rfl, rfl⟩
      cmdPending := fun c h => by simpa using h
      phaseLegal := .inl rfl },
    rfl, rfl⟩

theorem witness_ValidTableIsReadOnly :
    ∃ s t : State, s.invReady = true ∧ (∀ rest, s.agenda ≠ .reset :: rest) ∧ step s = .next t :=
  ⟨{ issue 0x07 State.reset with agenda := [.complete] }, _, rfl, fun _ => by simp, rfl⟩

/-- A write to the first KEY byte, and a reset. -/
theorem witness_KeyChangesOnlyByHost :
    (∃ s t : State, step s = .next t ∧ t.key ≠ s.key ∧ s.agenda = [.write 0x10 0x01]) ∧
    (∃ s t : State, step s = .next t ∧ t.key ≠ s.key ∧ s.agenda = [.reset]) :=
  ⟨⟨{ State.reset with agenda := [.write 0x10 0x01] }, _, rfl, by decide, rfl⟩,
    ⟨{ loaded with agenda := [.reset] }, _, rfl, by decide, rfl⟩⟩

/-- KEYEXP, ENCK and a reset. -/
theorem witness_ScheduleChangesOnlyByExpansion :
    (∃ s t : State, step s = .next t ∧ t.w ≠ s.w ∧ s.pending = some 0x08#8) ∧
    (∃ s t : State, step s = .next t ∧ t.w ≠ s.w ∧ s.pending = some 0x0E#8) ∧
    (∃ s t : State, step s = .next t ∧ t.w ≠ s.w ∧ s.agenda = [.reset]) :=
  ⟨⟨issue 0x08 loaded, _, rfl, by decide +kernel, rfl⟩, ⟨issue 0x0E loaded, _, rfl, by decide +kernel, rfl⟩,
    ⟨{ State.reset with w := Vector.replicate 176 0x01, agenda := [.reset] }, _, rfl, by decide +kernel, rfl⟩⟩

theorem witness_CommandsKeepHostRegisters : ∃ s t : State, exec .enck s = .next t := ⟨loaded, _, rfl⟩

/-- The least and the greatest address of each range. -/
theorem witness_WriteSetAddresses :
    inWriteSet .mul (locate 0x22) = true ∧ inWriteSet .keyexp (locate 0x40) = true ∧
      inWriteSet .keyexp (locate 0x4F) = true ∧ inWriteSet .ark (locate 0x00) = true ∧
      inWriteSet .ark (locate 0x0F) = true ∧ inWriteSet .enc (locate 0x26) = true ∧
      inWriteSet .enc (locate 0x50) = true ∧ inWriteSet .enck (locate 0x5F) = true ∧
      inWriteSet .enc (locate 0x40) = false ∧ inWriteSet .ark (locate 0x10) = false := by decide

theorem witness_CommandsStayInWriteSet :
    ∃ s t : State, exec .enck s = .next t ∧ inWriteSet .enck (locate 0x10) = false ∧
      (0x10#8 : Byte) ≠ 0x24#8 ∧ (0x10#8 : Byte) ≠ 0x25#8 :=
  ⟨loaded, _, rfl, by decide, by decide, by decide⟩

theorem witness_ScalarResultReadsOperandsOnly :
    ∃ s s' t t' : State, writesRes .sbox = true ∧ exec .sbox s = .next t ∧ exec .sbox s' = .next t' ∧
      s.opa = s'.opa ∧ s.opb = s'.opb ∧ s.invtab = s'.invtab ∧ s.invReady = true ∧ s'.invReady = true ∧
      s ≠ s' :=
  ⟨State.reset, loaded, _, _, rfl, rfl, rfl, rfl, rfl, rfl, rfl, rfl, by decide +kernel⟩

/-- Each of the three errors that a legal command can report, and an illegal byte. -/
theorem witness_ErrorsArePrecise :
    check .enc bare = some .invtabNotInit ∧ check .enc State.reset = some .noKey ∧
      check .ark { State.reset with rksel := 0xB#4 } = some .badIndex ∧ legal 0x80#8 = false := by decide

/-- A step from a state in which the failure is recorded, and one to a state in which it is not. -/
theorem witness_FatalFailureIsRecorded :
    (∃ s t : State, exec .inv s = .next t ∧ check .inv s = some .invtabNotInit) ∧
    (∃ s t : State, Safe t ∧ step s = .next t) :=
  ⟨⟨bare, _, rfl, by decide⟩, ⟨State.reset, State.reset, rfl, rfl⟩⟩

/-- An issue clears an error, and so does a reset. -/
theorem witness_ErrorStaysUntilIssueOrReset :
    (∃ s t : State, s.pending = none ∧ step s = .next t ∧ t.err ≠ s.err ∧ s.agenda = [.write 0x23 0x00]) ∧
    (∃ s t : State, s.pending = none ∧ step s = .next t ∧ t.errcode ≠ s.errcode ∧ s.agenda = [.reset]) :=
  ⟨⟨{ State.reset with err := true, done := true, errcode := 0x03, agenda := [.write 0x23 0x00] }, _, rfl, rfl,
      by decide, rfl⟩,
    ⟨{ State.reset with err := true, done := true, errcode := 0x03, agenda := [.reset] }, _, rfl, rfl,
      by decide, rfl⟩⟩

/-- A byte that is MULXN's, with the greatest count. -/
theorem witness_MulxnResult : 7 ≤ 7 ∧ decode 0x73#8 = .ok (.mulxn 7) := by decide

/-- Each clause: the selector at the two sides of its bound, the flags at each value. -/
theorem witness_FirstFailingCheckIsReported :
    legal 0x0F#8 = false ∧ bare.invReady = false ∧
    (∃ s : State, 10 < s.rksel.toNat) ∧ (∃ s : State, s.rksel.toNat = 10 ∧ s.keyValid = false) ∧
    (∃ s : State, s.invReady = true ∧ s.keyValid = false) ∧
    (∃ s : State, s.invReady = true ∧ s.rksel.toNat ≤ 10 ∧ s.keyValid = true) :=
  ⟨by decide, rfl, ⟨{ State.reset with rksel := 0xB#4 }, by decide⟩,
    ⟨{ State.reset with rksel := 0xA#4 }, by decide, rfl⟩, ⟨State.reset, rfl, rfl⟩,
    ⟨{ State.reset with keyValid := true }, rfl, by decide, rfl⟩⟩

theorem witness_NopOnlyCompletes :
    ∃ s : State, s.pending = none ∧ s.agenda = .write 0x23#8 0x00#8 :: .complete :: [] ∧ s.err = true ∧
      s.errcode = 0x03#8 :=
  ⟨{ State.reset with err := true, errcode := 0x03, agenda := [.write 0x23 0x00, .complete] },
    rfl, rfl, rfl, rfl⟩

/-- A valid table, and one that is not: INV, INITINV, SBOX, KEYEXP, SUB and ENCK. -/
theorem witness_tableReady_and_not : State.reset.invReady = true ∧ bare.invReady = false := ⟨rfl, rfl⟩

/-- The ends of the range of a count. -/
theorem witness_GmulLawsOfTheSource : (0 : Nat) ≤ 7 ∧ (7 : Nat) ≤ 7 := by decide

theorem witness_GmulHasInverses : (0xFF#8 : Byte) ≠ 0x00#8 := by decide

/-- The ends of the ranges of an iteration, of a bound k and of an entry m (the last one written, and the first
one not written yet), and a nonzero byte. -/
theorem witness_BuilderRuns255Iterations :
    ((1 : Nat) ≤ 1 ∧ 1 < 255) ∧ ((1 : Nat) ≤ 254 ∧ 254 < 255) ∧
      ((255 : Nat) ≤ 255 ∧ 254 < 255) ∧ ((254 : Nat) ≤ 255 ∧ 254 < 255 ∧ ¬ 254 < 254) ∧
      ((0 : Nat) ≤ 255 ∧ ¬ 0 < 0) ∧ (0xFF#8 : Byte) ≠ 0x00#8 := by decide

/-- The ends of the range of a round constant's index. -/
theorem witness_RoundConstants : ((1 : Nat) ≤ 1 ∧ 1 ≤ 9) ∧ ((1 : Nat) ≤ 9 ∧ 9 ≤ 9) := by decide

/-- The first and the last word of the loop, and a word and a byte that are transformed. -/
theorem witness_ExpandedScheduleRecurrence :
    (4 ≤ 4 ∧ 4 < 44 ∧ 4 % 4 = 0 ∧ 0 < 4) ∧ (4 ≤ 43 ∧ 43 < 44 ∧ 43 % 4 ≠ 0 ∧ 3 < 4) ∧ 15 < 16 := by decide

/-- The selector at its bound with a valid schedule, over it, and at it without. -/
theorem witness_ArkResult :
    (∃ s : State, s.rksel.toNat = 10 ∧ s.keyValid = true) ∧ (∃ s : State, s.rksel.toNat = 11) ∧
      (∃ s : State, s.rksel.toNat = 10 ∧ s.keyValid = false) :=
  ⟨⟨{ State.reset with rksel := 0xA#4, keyValid := true }, by decide, rfl⟩,
    ⟨{ State.reset with rksel := 0xB#4 }, by decide⟩,
    ⟨{ State.reset with rksel := 0xA#4 }, by decide, rfl⟩⟩

/-- Four equal columns. -/
theorem witness_ShrResult :
    ∃ s : State, ∀ r c : Nat, ∀ hr : r < 4, ∀ hc : c < 4, s.stateReg[4 * c + r] = s.stateReg[r] :=
  ⟨State.reset, fun r c hr hc => by simp [State.reset, State.resetFor]⟩

/-- A column of four equal bytes. -/
theorem witness_MixResult :
    ∃ s : State, ∀ c : Nat, ∀ hc : c < 4, ∀ k : Nat, ∀ hk : k < 4,
      s.stateReg[4 * c + k] = s.stateReg[4 * c] :=
  ⟨State.reset, fun c hc k hk => by simp [State.reset, State.resetFor]⟩

/-- Two blocks that agree in a lane and differ elsewhere, and two that agree in a column. -/
theorem witness_TransformLanes :
    ∃ b b' : Block, b ≠ b' ∧ b[0] = b'[0] ∧ ∀ k : Nat, ∀ hk : k < 4, b[4 * 0 + k] = b'[4 * 0 + k] :=
  ⟨Vector.replicate 16 0x00, (Vector.replicate 16 0x00).set 15 0x01, by decide, by decide, fun k hk => by
    have : ¬ 15 = k := by omega
    simp [this]⟩

/-- ENC with a valid table and schedule, and the first and last of the rounds 1 to 9. -/
theorem witness_EncResult :
    (∃ s e : State, s.invReady = true ∧ s.keyValid = true ∧ exec .enc s = .next e) ∧ (1 ≤ 1 ∧ 1 ≤ 9) ∧
      (1 ≤ 9 ∧ 9 ≤ 9) :=
  ⟨⟨{ loaded with keyValid := true }, _, rfl, rfl, rfl⟩, by decide, by decide⟩

/-- Each selector at the two sides of its bound, the last index of a window, and the ends of the reserved
ranges. -/
theorem witness_RegisterMapValues :
    (∃ s : State, s.rksel.toNat = 10 ∧ s.obssel.toNat = 10) ∧
      (∃ s : State, s.rksel.toNat = 11 ∧ s.obssel.toNat = 11) ∧ 15 < 16 ∧
      (0x29 ≤ (0x29#8).toNat ∧ (0x29#8).toNat ≤ 0x3F) ∧ 0x60 ≤ (0x60#8).toNat ∧ 0x60 ≤ (0xFF#8).toNat :=
  ⟨⟨{ State.reset with rksel := 0xA#4, obssel := 0xA#4 }, by decide, by decide⟩,
    ⟨{ State.reset with rksel := 0xB#4, obssel := 0xB#4 }, by decide, by decide⟩, by decide, by decide,
    by decide, by decide⟩

/-- An exact read with nothing in flight, an exact one beside a command in flight, and an unspecified one, of
PHASE. -/
theorem witness_BusReadResult :
    (∃ s : State, s.agenda = .read 0x00#8 :: [] ∧ s.pending = none) ∧
    (∃ s : State, s.agenda = .read 0x24#8 :: [] ∧ s.pending = some 0x0D#8 ∧
      ∀ i, decode 0x0D#8 = .ok i → inWriteSet i (locate 0x24#8) = false) ∧
    (∃ s : State, s.agenda = .read 0x26#8 :: [] ∧ s.pending = some 0x0D#8 ∧ decode 0x0D#8 = .ok .enc ∧
      inWriteSet .enc (locate 0x26#8) = true) :=
  ⟨⟨{ State.reset with agenda := [.read 0x00] }, rfl, rfl⟩,
    ⟨{ issue 0x0D State.reset with agenda := [.read 0x24] }, rfl, rfl, fun i h => by
      have : i = .enc := by simpa using (Decoded.ok.inj (h.symm.trans (by decide : decode 0x0D#8 = .ok .enc)))
      subst this; decide⟩,
    ⟨{ issue 0x0D State.reset with agenda := [.read 0x26] }, rfl, rfl, by decide, by decide⟩⟩

/-- A write dropped, and an issue that clears WDROP. -/
theorem witness_WriteWhileBusyIsDropped :
    (∃ s : State, busy s = true ∧ s.agenda = .write 0x23#8 0x01#8 :: []) ∧
    (∃ s t : State, s.wdrop = true ∧ step s = .next t ∧ t.wdrop = false) :=
  ⟨⟨{ issue 0x0D State.reset with agenda := [.write 0x23 0x01] }, rfl, rfl⟩,
    ⟨{ State.reset with wdrop := true, agenda := [.write 0x23 0x01] }, _, rfl, rfl, rfl⟩⟩

/-- A write to an address at an end of each ignored range, and a read of a reserved one. -/
theorem witness_ReservedAndReadOnlyAddresses :
    (∃ s : State, busy s = false ∧ s.agenda = .write 0x5F#8 0x01#8 :: []) ∧
    (∃ s : State, s.agenda = .read 0x3F#8 :: []) ∧
    (0x29 ≤ (0x3F#8).toNat ∧ (0x3F#8).toNat ≤ 0x3F) ∧ 0x60 ≤ (0x60#8).toNat ∧
    (0x40 ≤ (0x40#8).toNat ∧ (0x40#8).toNat ≤ 0x4F) ∧ (0x50 ≤ (0x5F#8).toNat ∧ (0x5F#8).toNat ≤ 0x5F) :=
  ⟨⟨{ State.reset with agenda := [.write 0x5F 0x01] }, rfl, rfl⟩, ⟨{ State.reset with agenda := [.read 0x3F] }, rfl⟩,
    by decide, by decide, by decide, by decide⟩

theorem witness_KeyWriteClearsKeyValid :
    ∃ s : State, 15 < 16 ∧ busy s = false ∧ s.agenda = .write (BitVec.ofNat 8 (0x10 + 15)) 0x00#8 :: [] :=
  ⟨{ State.reset with agenda := [.write 0x1F 0x00] }, by decide, rfl, rfl⟩

/-- A write to CMD of an illegal byte, accepted and dropped. -/
theorem witness_CmdWriteIssues :
    (∃ s : State, s.agenda = .write 0x23#8 0xFF#8 :: [] ∧ busy s = false) ∧
    (∃ s : State, s.agenda = .write 0x23#8 0xFF#8 :: [] ∧ busy s = true) :=
  ⟨⟨{ State.reset with agenda := [.write 0x23 0xFF] }, rfl, rfl⟩,
    ⟨{ issue 0x01 State.reset with agenda := [.write 0x23 0xFF] }, rfl, rfl⟩⟩

/-- The last STATE byte, and each of the single registers. -/
theorem witness_PlainWrites :
    (0x0F#8).toNat < 16 ∧ (∃ s : State, busy s = false ∧ s.agenda = .write 0x0F#8 0x01#8 :: []) ∧
    (∃ s : State, busy s = false ∧ s.agenda = .write 0x20#8 0x01#8 :: []) ∧
    (∃ s : State, busy s = false ∧ s.agenda = .write 0x21#8 0x01#8 :: []) ∧
    (∃ s : State, busy s = false ∧ s.agenda = .write 0x27#8 0xF3#8 :: []) ∧
    (∃ s : State, busy s = false ∧ s.agenda = .write 0x28#8 0x1C#8 :: []) :=
  ⟨by decide, ⟨{ State.reset with agenda := [.write 0x0F 0x01] }, rfl, rfl⟩,
    ⟨{ State.reset with agenda := [.write 0x20 0x01] }, rfl, rfl⟩,
    ⟨{ State.reset with agenda := [.write 0x21 0x01] }, rfl, rfl⟩,
    ⟨{ State.reset with agenda := [.write 0x27 0xF3] }, rfl, rfl⟩,
    ⟨{ State.reset with agenda := [.write 0x28 0x1C] }, rfl, rfl⟩⟩

/-- The last plain address, the two selectors, and a write to a selector with a read outside its window. -/
theorem witness_WriteThenRead :
    (∃ s : State, busy s = false ∧ s.agenda = .write 0x21#8 0x01#8 :: .read 0x21#8 :: [] ∧
      (0x21#8).toNat ≤ 0x21) ∧
    (∃ s : State, busy s = false ∧ s.agenda = .write 0x27#8 0x01#8 :: .read 0x27#8 :: []) ∧
    (∃ s : State, busy s = false ∧ s.agenda = .write 0x28#8 0x01#8 :: .read 0x28#8 :: []) ∧
    (∃ s t : State, busy s = false ∧ s.agenda = .write 0x27#8 0x01#8 :: [] ∧ step s = .next t ∧
      (0x27#8 : Byte) ≠ 0x23#8 ∧ (0x50#8 : Byte) ≠ 0x27#8 ∧ (0x50#8 : Byte) ≠ 0x24#8 ∧
      ¬ (0x40 ≤ (0x50#8).toNat ∧ (0x50#8).toNat ≤ 0x4F)) ∧
    (∃ s t : State, busy s = false ∧ s.agenda = .write 0x28#8 0x01#8 :: [] ∧ step s = .next t ∧
      (0x28#8 : Byte) ≠ 0x23#8 ∧ (0x4F#8 : Byte) ≠ 0x28#8 ∧ (0x4F#8 : Byte) ≠ 0x24#8 ∧
      ¬ (0x50 ≤ (0x4F#8).toNat ∧ (0x4F#8).toNat ≤ 0x5F)) :=
  ⟨⟨{ State.reset with agenda := [.write 0x21 0x01, .read 0x21] }, rfl, rfl, by decide⟩,
    ⟨{ State.reset with agenda := [.write 0x27 0x01, .read 0x27] }, rfl, rfl⟩,
    ⟨{ State.reset with agenda := [.write 0x28 0x01, .read 0x28] }, rfl, rfl⟩,
    ⟨{ State.reset with agenda := [.write 0x27 0x01] }, _, rfl, rfl, rfl, by decide, by decide, by decide,
      by decide⟩,
    ⟨{ State.reset with agenda := [.write 0x28 0x01] }, _, rfl, rfl, rfl, by decide, by decide, by decide,
      by decide⟩⟩

/-- A command in flight with a read and a write still on the agenda. -/
theorem witness_PendingCommandCompletes :
    ∃ s : State, s.pending = some 0x0D#8 ∧ busy s = true ∧ s.agenda = .read 0x24#8 :: [.write 0x20 0x55] ∧
      ∀ e ∈ s.agenda, ∃ a v, e = .read a ∨ e = .write a v :=
  ⟨{ issue 0x0D State.reset with agenda := [.read 0x24, .write 0x20 0x55] }, rfl, rfl, rfl, fun e he => by
    simp only [List.mem_cons, List.not_mem_nil, or_false] at he
    rcases he with rfl | rfl
    · exact ⟨0x24, 0x00, .inl rfl⟩
    · exact ⟨0x20, 0x55, .inr rfl⟩⟩

/-- A reset with a command in flight, on both kinds of part. -/
theorem witness_ResetStepValues :
    (∃ s : State, s.agenda = .reset :: [] ∧ busy s = true ∧ s.params.invPreloaded = true) ∧
    (∃ s : State, s.agenda = .reset :: [] ∧ s.params.invPreloaded = false) :=
  ⟨⟨{ issue 0x0E State.reset with agenda := [.reset] }, rfl, rfl, rfl⟩,
    ⟨{ bare with agenda := [.reset] }, rfl, rfl⟩⟩

end Sys2Proof.Tests
end

/-! What a step does to the core's tables, key and status (10_state.md): the invariant `Consistent` operation by
operation, and the frame of INVTAB, KEY and W. -/

namespace Sys2Proof.Machine

open Sys2Proof

/-! ### The table and the decoder -/

/-- The reset contents of a preloaded part are what INITINV would build (42_inverse_table.md R152). -/
theorem buildInv_eq_invRom : buildInv = invRom := by decide +kernel

/-- A byte that decodes to a command is that command's encoding (30_encoding.md R94). -/
theorem encode_of_decode {c : Byte} {i : Instr} (h : decode c = .ok i) : encode i = c := by
  have all : ∀ c : Byte, (decode c).instr?.all (fun i => encode i == c) = true := by decide +kernel
  simpa [h, Decoded.instr?] using all c

/-- The KEY bytes stand at 0x10 to 0x1F only (20_memory.md R61). -/
theorem addr_of_locate_key {a : Byte} {j : Fin 16} (h : locate a = .key j) :
    0x10 ≤ a.toNat ∧ a.toNat ≤ 0x1F := by
  have hn : (a.extractLsb' 4 4).toNat = 1 := by
    unfold locate at h
    split at h
    case h_2 hn => exact hn
    case h_3 => split at h <;> cases h
    all_goals cases h
  rw [BitVec.extractLsb'_toNat, Nat.shiftRight_eq_div_pow] at hn
  omega

/-! ### The invariant after each write

A write that touches no field of the invariant inherits every clause; the others give the clauses they
touch. -/

section
variable {s t : State} (h : Consistent s)
include h

theorem consistent_setAgenda (l : List Event) : Consistent (setAgenda l s) := { h with }
theorem consistent_logRead (v : Byte) (n : Nat) : Consistent (logRead v n s) := { h with }
theorem consistent_dropWrite : Consistent (dropWrite s) := { h with }
theorem consistent_setRes (v : Byte) : Consistent (setRes v s) := { h with }
theorem consistent_setStateReg (b : Block) : Consistent (setStateReg b s) := { h with }
theorem consistent_setStateByte (j : Fin 16) (v : Byte) : Consistent (setStateByte j v s) := { h with }
theorem consistent_setOpa (v : Byte) : Consistent (setOpa v s) := { h with }
theorem consistent_setOpb (v : Byte) : Consistent (setOpb v s) := { h with }
theorem consistent_setRksel (v : Byte) : Consistent (setRksel v s) := { h with }
theorem consistent_setObssel (v : Byte) : Consistent (setObssel v s) := { h with }

/-- An encryption ends in the phase Done (10_state.md R33). -/
theorem consistent_setCipher (b : Block) (snap : Snapshots) : Consistent (setCipher b snap s) :=
  { h with phaseLegal := .inr rfl }

/-- A key write leaves the schedule stale, and marks it so (20_memory.md R66). -/
theorem consistent_setKeyByte (j : Fin 16) (v : Byte) : Consistent (setKeyByte j v s) :=
  { h with scheduleValid := nofun, scheduleNeedsTable := nofun }

/-- The table is built only while no schedule is valid, so none is left stale. -/
theorem consistent_setTable {T : Table} (hT : T = buildInv) (hr : s.invReady = false) :
    Consistent (setTable T s) :=
  { h with
    tableValid := fun _ => hT
    romReady := fun _ => rfl
    scheduleValid := fun hk => absurd (h.scheduleNeedsTable hk) (by simp [hr])
    scheduleNeedsTable := fun _ => rfl }

theorem consistent_setSchedule {w : Schedule} (hw : w = expand s.invtab s.key) (hr : s.invReady = true) :
    Consistent (setSchedule w s) :=
  { h with scheduleValid := fun _ => hw, scheduleNeedsTable := fun _ => hr }

/-- The issue clears the flags before it sets BUSY (40_control.md R111). -/
theorem consistent_issue (v : Byte) : Consistent (issue v s) :=
  { h with
    noErrorCode := fun _ => rfl
    errorCode := nofun
    errorDone := nofun
    busyFlags := fun _ => ⟨rfl, rfl⟩
    cmdPending := fun _ hc => Option.some.inj hc }

theorem consistent_finish : Consistent (finish s) :=
  { h with errorDone := fun _ => rfl, busyFlags := nofun, cmdPending := nofun }

/-- The record `fatal` is set only by a part whose table is not valid, so never by a preloaded one. -/
theorem consistent_errorEntry {e : ErrCode} (he : e = .invtabNotInit → s.invReady = false) :
    Consistent (errorEntry e s) :=
  { h with
    romSafe := fun hp => by
      have hne : e ≠ .invtabNotInit := fun heq => by simpa [h.romReady hp] using he heq
      simp [h.romSafe hp, hne]
    noErrorCode := nofun
    errorCode := fun _ => ⟨e, rfl⟩
    errorDone := fun _ => rfl
    busyFlags := nofun
    cmdPending := nofun }

end

/-- The reset values meet the invariant clause by clause; only a preloaded part has a valid table, which is the
builder's. -/
theorem consistent_resetFor (p : Params) : Consistent (State.resetFor p) where
  tableValid hr := by
    have hp : p.invPreloaded = true := hr
    simp [State.resetFor, hp, buildInv_eq_invRom]
  romReady hp := hp
  romSafe _ := rfl
  scheduleValid := nofun
  scheduleNeedsTable := nofun
  noErrorCode _ := rfl
  errorCode := nofun
  errorDone := nofun
  busyFlags := nofun
  cmdPending := nofun
  phaseLegal := .inl rfl

section
variable {s t : State}

/-- The reset step writes the reset values and keeps the record `fatal`, so that clause is the old one. -/
theorem consistent_resetStep (h : Consistent s) : Consistent (resetStep s) :=
  { consistent_resetFor s.params with romSafe := h.romSafe }

/-! ### The invariant after each agent's move -/

theorem consistent_performed {i : Instr} (h : Consistent s) (hc : check i s = none) :
    Consistent (performed i s) := by
  have ready : readsTable i = true → s.invReady = true := (check_none hc).1
  rcases performed_cases i s with hp | ⟨-, v, hp⟩ | ⟨-, -, b, hp⟩ | ⟨-, hr, hp⟩ | ⟨rfl, hp⟩ | ⟨-, hp⟩ |
    ⟨rfl, hp⟩ <;> rw [hp]
  · exact h
  · exact consistent_setRes h v
  · exact consistent_setStateReg h b
  · exact consistent_setTable h rfl hr
  · exact consistent_setSchedule h rfl (ready rfl)
  · exact consistent_setCipher h _ _
  · exact consistent_setCipher (consistent_setSchedule h rfl (ready rfl)) _ _

theorem consistent_exec {i : Instr} (h : Consistent s) (ht : exec i s = .next t) : Consistent t := by
  rcases exec_cases ht with ⟨hc, rfl⟩ | ⟨e, hc, rfl⟩
  · exact consistent_finish (consistent_performed h hc)
  · exact consistent_errorEntry h (check_some hc).2

theorem consistent_engineStep (h : Consistent s) (ht : engineStep s = .next t) : Consistent t := by
  rcases engineStep_cases ht with ⟨-, rfl⟩ | ⟨c, -, ht⟩
  · exact h
  rcases completeByte_cases ht with ⟨i, -, ht⟩ | ⟨-, rfl⟩
  · exact consistent_exec h ht
  · exact consistent_errorEntry h nofun

theorem consistent_memRead (h : Consistent s) (a : Byte) : Consistent (memRead a s) := by
  obtain ⟨v, n, hr⟩ := memRead_cases s a
  exact hr ▸ consistent_logRead h v n

theorem consistent_regWrite (h : Consistent s) (v : Byte) (l : Loc) : Consistent (regWrite v s l) := by
  rcases regWrite_cases s v l with hw | ⟨j, -, hw⟩ | ⟨j, -, hw⟩ | ⟨-, hw⟩ | ⟨-, hw⟩ | ⟨-, hw⟩ | ⟨-, hw⟩ |
    ⟨-, hw⟩ <;> rw [hw]
  · exact h
  · exact consistent_setStateByte h j v
  · exact consistent_setKeyByte h j v
  · exact consistent_setOpa h v
  · exact consistent_setOpb h v
  · exact consistent_issue h v
  · exact consistent_setRksel h v
  · exact consistent_setObssel h v

theorem consistent_memWrite (h : Consistent s) (a v : Byte) : Consistent (memWrite a v s) := by
  rcases memWrite_cases s a v with ⟨-, hw⟩ | ⟨-, hw⟩ <;> rw [hw]
  · exact consistent_dropWrite h
  · exact consistent_regWrite h v _

theorem consistent_step (h : Consistent s) (ht : step s = .next t) : Consistent t := by
  rcases step_cases ht with ⟨-, ht⟩ | ⟨rest, ⟨a, -, rfl⟩ | ⟨a, v, -, rfl⟩ | ⟨-, ht⟩ | ⟨-, rfl⟩⟩
  · exact consistent_engineStep h ht
  all_goals have hs := consistent_setAgenda h rest
  · exact consistent_memRead hs a
  · exact consistent_memWrite hs a v
  · exact consistent_engineStep hs ht
  · exact consistent_resetStep hs

end

/-- Settles O11: each agent's move keeps the invariant, write by write. -/
theorem stepKeepsConsistent : Obligations.StepKeepsConsistent := fun _ _ h ht => consistent_step h ht

/-- Settles O10: the default part is one of the two kinds. -/
theorem resetIsConsistent : Obligations.ResetIsConsistent :=
  ⟨consistent_resetFor Params.standard, consistent_resetFor⟩

/-- Settles O60: every value is the one `State.resetFor` writes. -/
theorem resetState : Obligations.ResetState :=
  ⟨rfl, by decide, buildInv_eq_invRom.symm, by decide, fun _ => ⟨rfl, rfl, rfl, rfl, rfl, rfl⟩⟩

/-- Settles O50: the bits of the concatenation, BUSY being bit 0. -/
theorem statusBits : Obligations.StatusBits := by
  intro s
  simp only [statusByte, busy, BitVec.zeroExtend, BitVec.getLsbD_setWidth, BitVec.getLsbD_append]
  simp

/-! ### What a step leaves unchanged -/

/-- KEY, W and INVTAB with its valid bit are as before. -/
structure SameTables (s t : State) : Prop where
  key : t.key = s.key
  w : t.w = s.w
  invtab : t.invtab = s.invtab
  invReady : t.invReady = s.invReady

section
variable {s t : State}

/-- All that the engine's move can do to the tables: nothing, unless a legal command completes. -/
theorem engineStep_tables (h : engineStep s = .next t) :
    SameTables s t ∨ ∃ i, s.pending = some (encode i) ∧ exec i s = .next t := by
  rcases engineStep_cases h with ⟨-, rfl⟩ | ⟨c, hp, h⟩
  · exact .inl ⟨rfl, rfl, rfl, rfl⟩
  rcases completeByte_cases h with ⟨i, hd, h⟩ | ⟨-, rfl⟩
  · exact .inr ⟨i, encode_of_decode hd ▸ hp, h⟩
  · exact .inl ⟨rfl, rfl, rfl, rfl⟩

/-- All that a step can do to the tables: nothing, unless it is a reset, an accepted write or the completion of
a legal command. -/
theorem step_tables (h : step s = .next t) :
    SameTables s t ∨ (∃ rest, s.agenda = .reset :: rest) ∨
      (∃ a v rest, s.agenda = .write a v :: rest ∧ s.pending = none ∧
        t = regWrite v (setAgenda rest s) (locate a)) ∨
      ∃ i rest, s.pending = some (encode i) ∧ exec i (setAgenda rest s) = .next t := by
  rcases step_cases h with ⟨-, h⟩ | ⟨rest, ⟨a, -, rfl⟩ | ⟨a, v, ha, rfl⟩ | ⟨-, h⟩ | ⟨ha, -⟩⟩
  · rcases engineStep_tables h with hs | ⟨i, hp, h⟩
    · exact .inl hs
    · exact .inr (.inr (.inr ⟨i, s.agenda, hp, h⟩))
  · obtain ⟨v, n, hr⟩ := memRead_cases (setAgenda rest s) a
    exact hr ▸ .inl ⟨rfl, rfl, rfl, rfl⟩
  · rcases memWrite_cases (setAgenda rest s) a v with ⟨-, hw⟩ | ⟨hb, hw⟩
    · exact hw ▸ .inl ⟨rfl, rfl, rfl, rfl⟩
    · exact .inr (.inr (.inl ⟨a, v, rest, ha, (busy_eq_false s).mp hb, hw⟩))
  · rcases engineStep_tables h with hs | ⟨i, hp, h⟩
    · exact .inl ⟨hs.key, hs.w, hs.invtab, hs.invReady⟩
    · exact .inr (.inr (.inr ⟨i, rest, hp, h⟩))
  · exact .inr (.inl ⟨rest, ha⟩)

/-! An accepted write changes KEY at KEY's own addresses only, and the tables nowhere. -/

@[simp] theorem regWrite_w (v : Byte) (s : State) (l : Loc) : (regWrite v s l).w = s.w := by cases l <;> rfl
@[simp] theorem regWrite_invtab (v : Byte) (s : State) (l : Loc) : (regWrite v s l).invtab = s.invtab := by
  cases l <;> rfl
@[simp] theorem regWrite_invReady (v : Byte) (s : State) (l : Loc) :
    (regWrite v s l).invReady = s.invReady := by cases l <;> rfl

theorem regWrite_key (v : Byte) (s : State) (l : Loc) :
    (regWrite v s l).key = s.key ∨ ∃ j, l = .key j ∧ (regWrite v s l).keyValid = false := by
  cases l with
  | key j => exact .inr ⟨j, rfl, rfl⟩
  | _ => exact .inl rfl

/-! What a command's own rule leaves unchanged, and through it the whole command (40_control.md R116). -/

@[simp] theorem performed_key (i : Instr) (s : State) : (performed i s).key = s.key := by
  rcases performed_cases i s with hp | ⟨-, v, hp⟩ | ⟨-, -, b, hp⟩ | ⟨-, -, hp⟩ | ⟨-, hp⟩ | ⟨-, hp⟩ | ⟨-, hp⟩ <;>
    simp [hp, expandKey, encrypt]

theorem performed_w (i : Instr) (s : State) :
    (performed i s).w = s.w ∨
      (i = .keyexp ∨ i = .enck) ∧ (performed i s).w = expand s.invtab s.key ∧
        (performed i s).keyValid = true := by
  rcases performed_cases i s with hp | ⟨-, v, hp⟩ | ⟨-, -, b, hp⟩ | ⟨-, -, hp⟩ | ⟨rfl, hp⟩ | ⟨-, hp⟩ | ⟨rfl, hp⟩ <;>
    simp [hp, expandKey, encrypt]

theorem performed_table (i : Instr) {s : State} (h : s.invReady = true) :
    (performed i s).invtab = s.invtab ∧ (performed i s).invReady = true := by
  rcases performed_cases i s with hp | ⟨-, v, hp⟩ | ⟨-, -, b, hp⟩ | ⟨-, hr, -⟩ | ⟨-, hp⟩ | ⟨-, hp⟩ | ⟨-, hp⟩
  case inr.inr.inr.inl => simp [h] at hr
  all_goals simp [hp, h, expandKey, encrypt]

theorem exec_key {i : Instr} (h : exec i s = .next t) : t.key = s.key := by
  rcases exec_cases h with ⟨-, rfl⟩ | ⟨e, -, rfl⟩ <;> simp

theorem exec_w {i : Instr} (h : exec i s = .next t) :
    t.w = s.w ∨ (i = .keyexp ∨ i = .enck) ∧ t.w = expand s.invtab s.key ∧ t.keyValid = true := by
  rcases exec_cases h with ⟨-, rfl⟩ | ⟨e, -, rfl⟩
  · exact performed_w i s
  · exact .inl rfl

theorem exec_table {i : Instr} (hr : s.invReady = true) (h : exec i s = .next t) :
    t.invtab = s.invtab ∧ t.invReady = true := by
  rcases exec_cases h with ⟨-, rfl⟩ | ⟨e, -, rfl⟩
  · exact performed_table i hr
  · exact ⟨rfl, hr⟩

end

/-- Settles O12: only INITINV and reset write the table, and INITINV only one that is not valid. -/
theorem validTableIsReadOnly : Obligations.ValidTableIsReadOnly := by
  intro s t hr hn h
  rcases step_tables h with hs | ⟨rest, ha⟩ | ⟨a, v, rest, -, -, rfl⟩ | ⟨i, rest, -, h⟩
  · exact ⟨hs.invtab, hs.invReady.trans hr⟩
  · exact absurd ha (hn rest)
  · simp [hr]
  · exact exec_table (s := setAgenda rest s) hr h

/-- Settles O13: no command writes KEY, and an accepted write changes it at its own addresses only. -/
theorem keyChangesOnlyByHost : Obligations.KeyChangesOnlyByHost := by
  intro s t h hne
  rcases step_tables h with hs | hreset | ⟨a, v, rest, ha, hidle, rfl⟩ | ⟨i, rest, -, h⟩
  · exact absurd hs.key hne
  · exact .inl hreset
  · rcases regWrite_key v (setAgenda rest s) (locate a) with hk | ⟨j, hl, hv⟩
    · exact absurd hk hne
    · obtain ⟨hlow, hhigh⟩ := addr_of_locate_key hl
      exact .inr ⟨a, v, rest, ha, hlow, hhigh, hidle, hv⟩
  · exact absurd (exec_key h) hne

/-- Settles O14: no write and no other command changes W. -/
theorem scheduleChangesOnlyByExpansion : Obligations.ScheduleChangesOnlyByExpansion := by
  intro s t h hne
  rcases step_tables h with hs | hreset | ⟨a, v, rest, -, -, rfl⟩ | ⟨i, rest, hp, h⟩
  · exact absurd hs.w hne
  · exact .inl hreset
  · simp at hne
  · rcases exec_w h with hw | ⟨rfl | rfl, hw, hv⟩
    · exact absurd hw hne
    · exact .inr ⟨.inl hp, hw, hv⟩
    · exact .inr ⟨.inr hp, hw, hv⟩

end Sys2Proof.Machine

/-! The host's bus (20_memory.md): where an address leads, what a transaction does to the state, and what the
register map reads after a write. -/

namespace Sys2Proof.Machine

open Sys2Proof

/-! ### The register map read from the address (20_memory.md R61)

The facts about all 256 addresses are evaluations; what is said of one place follows from them. -/

/-- An address that is not reserved is the address of what stands there. -/
theorem addrOf_locate {a : Byte} : locate a ≠ .reserved → addrOf (locate a) = a := by
  revert a; decide +kernel

theorem locate_eq_reserved {a : Byte} :
    locate a = .reserved ↔ 0x29 ≤ a.toNat ∧ a.toNat ≤ 0x3F ∨ 0x60 ≤ a.toNat := by
  revert a; decide +kernel

theorem locate_of_le_opb {a : Byte} :
    a.toNat ≤ 0x21 → (∃ i, locate a = .state i) ∨ (∃ i, locate a = .key i) ∨ locate a = .opa ∨
      locate a = .opb := by
  revert a; decide +kernel

theorem locate_of_lt_key {a : Byte} (h : a.toNat < 16) : locate a = .state ⟨a.toNat, h⟩ := by
  simpa using locate_stateByte ⟨a.toNat, h⟩

/-- What is not reserved stands at its own address only. -/
theorem locate_eq_iff {a : Byte} {l : Loc} (hl : l ≠ .reserved) : locate a = l ↔ a = addrOf l := by
  constructor
  · rintro rfl
    exact (addrOf_locate hl).symm
  · rintro rfl
    exact locate_addrOf l

theorem eq_of_locate_eq {a b : Byte} (ha : locate a ≠ .reserved) (h : locate b = locate a) : b = a :=
  ((locate_eq_iff ha).mp h).trans (addrOf_locate ha)

theorem locate_eq_cmd {a : Byte} : locate a = .cmd ↔ a = 0x23#8 := locate_eq_iff nofun
theorem locate_eq_status {a : Byte} : locate a = .status ↔ a = 0x24#8 := locate_eq_iff nofun
theorem locate_eq_rksel {a : Byte} : locate a = .rksel ↔ a = 0x27#8 := locate_eq_iff nofun
theorem locate_eq_obssel {a : Byte} : locate a = .obssel ↔ a = 0x28#8 := locate_eq_iff nofun

theorem rkwin_range_of_locate {b : Byte} {j : Fin 16} (h : locate b = .rkwin j) :
    0x40 ≤ b.toNat ∧ b.toNat ≤ 0x4F := by
  rw [(locate_eq_iff (l := .rkwin j) nofun).mp h]
  clear h
  revert j; decide

theorem obswin_range_of_locate {b : Byte} {j : Fin 16} (h : locate b = .obswin j) :
    0x50 ≤ b.toNat ∧ b.toNat ≤ 0x5F := by
  rw [(locate_eq_iff (l := .obswin j) nofun).mp h]
  clear h
  revert j; decide

/-! ### The places that no write reaches (20_memory.md R64, R65) -/

/-- The reserved addresses, the read-only registers and the two windows. -/
def ignoresWrites : Loc → Bool
  | .res | .status | .errcode | .phase | .rkwin _ | .obswin _ | .reserved => true
  | .state _ | .key _ | .opa | .opb | .cmd | .rksel | .obssel => false

theorem regWrite_ignored {l : Loc} (h : ignoresWrites l = true) (v : Byte) (s : State) :
    regWrite v s l = s := by
  cases l with
  | res | status | errcode | phase | rkwin | obswin | reserved => rfl
  | state | key | opa | opb | cmd | rksel | obssel => cases h

theorem ignoresWrites_locate {a : Byte} :
    ignoresWrites (locate a) = true ↔
      0x29 ≤ a.toNat ∧ a.toNat ≤ 0x3F ∨ 0x60 ≤ a.toNat ∨ a = 0x22#8 ∨ a = 0x24#8 ∨ a = 0x25#8 ∨
        a = 0x26#8 ∨ 0x40 ≤ a.toNat ∧ a.toNat ≤ 0x4F ∨ 0x50 ≤ a.toNat ∧ a.toNat ≤ 0x5F := by
  revert a; decide +kernel

/-! ### The low four bits that a selector stores (10_state.md R34, R35) -/

theorem extractLow_toNat (v : Byte) : (v.extractLsb' 0 4).toNat = v.toNat % 16 := by simp

theorem zeroExtend_extractLow (v : Byte) : (v.extractLsb' 0 4).zeroExtend 8 = v &&& 0x0F#8 := by
  revert v; decide +kernel

/-! ### The windows (20_memory.md R81) -/

theorem rkwin_of_le (w : Schedule) {sel : BitVec 4} (h : sel.toNat ≤ 10) {j : Nat} (hj : j < 16) :
    rkwin w sel ⟨j, hj⟩ = w[16 * sel.toNat + j] := by
  simp [rkwin, selects, h, roundKey_byte w h hj]

theorem rkwin_of_gt (w : Schedule) {sel : BitVec 4} (h : 10 < sel.toNat) (j : Fin 16) :
    rkwin w sel j = 0x00#8 := by
  simp [rkwin, selects, Nat.not_le.mpr h]

theorem obswin_of_le (obs : Snapshots) {sel : BitVec 4} (h : sel.toNat ≤ 10) (j : Fin 16) :
    obswin obs sel j = (obs[sel.toNat])[j.val] := by
  simp [obswin, Nat.lt_succ_of_le h]

theorem obswin_of_gt (obs : Snapshots) {sel : BitVec 4} (h : 10 < sel.toNat) (j : Fin 16) :
    obswin obs sel j = 0x00#8 := by
  simp [obswin, Nat.not_lt.mpr h]

/-! ### The register map after each host write -/

section
variable (v : Byte) (s : State) (m : Loc)

theorem regRead_setStateByte (i : Fin 16) :
    regRead (setStateByte i v s) m = if m = .state i then v else regRead s m := by
  cases m with
  | state j => simp [regRead, setStateByte, Vector.getElem_set, Fin.ext_iff, eq_comm]
  | _ => rfl

theorem regRead_setOpa : regRead (setOpa v s) m = if m = .opa then v else regRead s m := by
  cases m <;> rfl

theorem regRead_setOpb : regRead (setOpb v s) m = if m = .opb then v else regRead s m := by
  cases m <;> rfl

variable {m}

/-- A KEY write clears KEY_VALID too, which STATUS shows. -/
theorem regRead_setKeyByte (i : Fin 16) (hm : m ≠ .status) :
    regRead (setKeyByte i v s) m = if m = .key i then v else regRead s m := by
  cases m with
  | key j => simp [regRead, setKeyByte, Vector.getElem_set, Fin.ext_iff, eq_comm]
  | status => exact absurd rfl hm
  | _ => rfl

/-- RKSEL moves the round key window with it. -/
theorem regRead_setRksel (hm : ∀ j, m ≠ .rkwin j) :
    regRead (setRksel v s) m = if m = .rksel then v &&& 0x0F#8 else regRead s m := by
  cases m with
  | rksel => exact zeroExtend_extractLow v
  | rkwin j => exact absurd rfl (hm j)
  | _ => rfl

/-- OBSSEL moves the snapshot window with it. -/
theorem regRead_setObssel (hm : ∀ j, m ≠ .obswin j) :
    regRead (setObssel v s) m = if m = .obssel then v &&& 0x0F#8 else regRead s m := by
  cases m with
  | obssel => exact zeroExtend_extractLow v
  | obswin j => exact absurd rfl (hm j)
  | _ => rfl

end

section
variable (v : Byte) (s : State) {l m : Loc}

theorem regRead_regWrite_same
    (h : (∃ i, l = .state i) ∨ (∃ i, l = .key i) ∨ l = .opa ∨ l = .opb) :
    regRead (regWrite v s l) l = v := by
  rcases h with ⟨i, rfl⟩ | ⟨i, rfl⟩ | rfl | rfl
  · simp [regWrite, regRead_setStateByte]
  · simp [regWrite, regRead_setKeyByte]
  · rfl
  · rfl

theorem regRead_regWrite_selector (h : l = .rksel ∨ l = .obssel) :
    regRead (regWrite v s l) l = v &&& 0x0F#8 := by
  rcases h with rfl | rfl
  · simp [regWrite, regRead_setRksel]
  · simp [regWrite, regRead_setObssel]

/-- An accepted write, other than an issue, leaves every other place that it does not also update. -/
theorem regRead_regWrite_other (hml : m ≠ l) (hcmd : l ≠ .cmd) (hstatus : m ≠ .status)
    (hrk : l = .rksel → ∀ j, m ≠ .rkwin j) (hobs : l = .obssel → ∀ j, m ≠ .obswin j) :
    regRead (regWrite v s l) m = regRead s m := by
  rcases regWrite_cases s v l with hw | ⟨i, rfl, hw⟩ | ⟨i, rfl, hw⟩ | ⟨rfl, hw⟩ | ⟨rfl, hw⟩ | ⟨rfl, -⟩ |
    ⟨rfl, hw⟩ | ⟨rfl, hw⟩
  case inr.inr.inr.inr.inr.inl => exact absurd rfl hcmd
  all_goals rw [hw]
  · rw [regRead_setStateByte, if_neg hml]
  · rw [regRead_setKeyByte v s i hstatus, if_neg hml]
  · rw [regRead_setOpa, if_neg hml]
  · rw [regRead_setOpb, if_neg hml]
  · rw [regRead_setRksel v s (hrk rfl), if_neg hml]
  · rw [regRead_setObssel v s (hobs rfl), if_neg hml]

/-! An accepted write spends no event, returns no byte, and puts nothing in flight unless it is an issue. -/

@[simp] theorem regWrite_agenda (l : Loc) : (regWrite v s l).agenda = s.agenda := by cases l <;> rfl
@[simp] theorem regWrite_returned (l : Loc) : (regWrite v s l).returned = s.returned := by cases l <;> rfl

theorem regWrite_pending (hcmd : l ≠ .cmd) : (regWrite v s l).pending = s.pending := by
  cases l with
  | cmd => exact absurd rfl hcmd
  | _ => rfl

end

/-! ### A step of the host -/

section
variable {s t : State} {a v : Byte} {rest : List Event}

theorem step_write_idle (hb : busy s = false) (ha : s.agenda = .write a v :: rest) :
    step s = .next (regWrite v (setAgenda rest s) (locate a)) := by
  rw [step_of_agenda_cons ha, runEvent, memWrite_idle (by simpa using hb)]

theorem step_write_busy (hb : busy s = true) (ha : s.agenda = .write a v :: rest) :
    step s = .next (dropWrite (setAgenda rest s)) := by
  rw [step_of_agenda_cons ha, runEvent, memWrite_busy (by simpa using hb)]

theorem step_read_exact (h : unspecified s (locate a) = false) (ha : s.agenda = .read a :: rest) :
    step s = .next (logRead (regRead s (locate a)) s.draws (setAgenda rest s)) := by
  rw [step_of_agenda_cons ha, runEvent, memRead_exact (by simpa using h), regRead_setAgenda,
    setAgenda_draws]

theorem step_read_free (h : unspecified s (locate a) = true) (ha : s.agenda = .read a :: rest) :
    step s = .next (logRead (freeByte s.draws (locate a)) (s.draws + 1) (setAgenda rest s)) := by
  rw [step_of_agenda_cons ha, runEvent, memRead_free (by simpa using h), setAgenda_draws]

/-- A read is exact when nothing in flight may change the place (20_memory.md R69). -/
theorem unspecified_of_not_inWriteSet {l : Loc}
    (h : ∀ c i, s.pending = some c → decode c = .ok i → inWriteSet i l = false) :
    unspecified s l = false := by
  cases hp : s.pending with
  | none => exact unspecified_idle hp l
  | some c =>
    cases hd : decode c with
    | ok i => rw [unspecified_busy hp hd, h c i hp hd]
    | illegal why => exact unspecified_illegal hp hd l

/-- An unspecified read of PHASE gives the number of a round, 0 to 10 (10_state.md R33). -/
theorem freeByte_phase_le (k : Nat) : (freeByte k .phase).toNat ≤ 0x0A := by
  have hk : (Config.busyPhase k).val < 11 := (Config.busyPhase k).isLt
  simp only [freeByte, BitVec.toNat_ofNat]
  omega

/-- An accepted write and a read of the same address: the host gets what then stands there. -/
theorem step_write_step_read (hb : busy s = false) (ha : s.agenda = .write a v :: .read a :: rest)
    (hcmd : locate a ≠ .cmd) :
    ∃ t u, step s = .next t ∧ step t = .next u ∧
      u.returned = regRead (regWrite v (setAgenda (.read a :: rest) s) (locate a)) (locate a) ::
        s.returned := by
  have hidle : (regWrite v (setAgenda (.read a :: rest) s) (locate a)).pending = none :=
    (regWrite_pending _ _ hcmd).trans ((busy_eq_false s).mp hb)
  exact ⟨_, _, step_write_idle hb ha,
    step_read_exact (rest := rest) (unspecified_idle hidle (locate a)) (by simp), by simp⟩

/-! ### What clears WDROP (20_memory.md R68) -/

@[simp] theorem performed_wdrop (i : Instr) (s : State) : (performed i s).wdrop = s.wdrop := by
  rcases performed_cases i s with hp | ⟨-, v, hp⟩ | ⟨-, -, b, hp⟩ | ⟨-, -, hp⟩ | ⟨-, hp⟩ | ⟨-, hp⟩ | ⟨-, hp⟩ <;>
    simp [hp, expandKey, encrypt]

theorem engineStep_wdrop (h : engineStep s = .next t) : t.wdrop = s.wdrop := by
  rcases engineStep_cases h with ⟨-, rfl⟩ | ⟨c, -, h⟩
  · rfl
  rcases completeByte_cases h with ⟨i, -, h⟩ | ⟨-, rfl⟩
  · rcases exec_cases h with ⟨-, rfl⟩ | ⟨e, -, rfl⟩ <;> simp
  · rfl

theorem regWrite_wdrop (v : Byte) (s : State) {l : Loc} (hcmd : l ≠ .cmd) :
    (regWrite v s l).wdrop = s.wdrop := by
  cases l with
  | cmd => exact absurd rfl hcmd
  | _ => rfl

/-- All that a step can do to a WDROP that is set: nothing, unless it is an issue or a reset. -/
theorem step_wdrop (hs : s.wdrop = true) (h : step s = .next t) :
    t.wdrop = true ∨ (busy s = false ∧ ∃ v rest, s.agenda = .write 0x23#8 v :: rest) ∨
      ∃ rest, s.agenda = .reset :: rest := by
  rcases step_cases h with ⟨-, h⟩ | ⟨rest, ⟨a, -, rfl⟩ | ⟨a, v, ha, rfl⟩ | ⟨-, h⟩ | ⟨ha, -⟩⟩
  · exact .inl ((engineStep_wdrop h).trans hs)
  · obtain ⟨v, n, hr⟩ := memRead_cases (setAgenda rest s) a
    exact .inl (by simp [hr, hs])
  · rcases memWrite_cases (setAgenda rest s) a v with ⟨-, hw⟩ | ⟨hb, hw⟩
    · exact .inl (by simp [hw])
    by_cases hcmd : locate a = .cmd
    · exact .inr (.inl ⟨hb, v, rest, locate_eq_cmd.mp hcmd ▸ ha⟩)
    · exact .inl (by simp [hw, regWrite_wdrop v _ hcmd, hs])
  · exact .inl ((engineStep_wdrop h).trans hs)
  · exact .inr (.inr ⟨rest, ha⟩)

end

/-- Settles O57: the register map after each host write, carried to addresses; two addresses share a place only
when it is reserved, and there the write does nothing. -/
theorem writeThenRead : Obligations.WriteThenRead := by
  refine ⟨fun s a v rest hb ha => ⟨fun hle => ?_, fun hsel => ?_⟩, ?_⟩
  · have hl := locate_of_le_opb hle
    have hcmd : locate a ≠ .cmd := fun hc => by simp [hc] at hl
    simpa [regRead_regWrite_same _ _ hl] using step_write_step_read hb ha hcmd
  · have hl : locate a = .rksel ∨ locate a = .obssel :=
      hsel.imp locate_eq_rksel.mpr locate_eq_obssel.mpr
    have hcmd : locate a ≠ .cmd := fun hc => by simp [hc] at hl
    simpa [regRead_regWrite_selector _ _ hl] using step_write_step_read hb ha hcmd
  · intro s t a b v rest hb ha hcmd hba hstatus hrk hobs ht
    obtain rfl := Host.Outcome.next.inj ((step_write_idle hb ha).symm.trans ht)
    by_cases hres : locate a = .reserved
    · rw [hres, regWrite_ignored rfl, regRead_setAgenda]
    · refine (regRead_regWrite_other v _ (fun h => hba (eq_of_locate_eq hres h)) ?_ ?_ ?_ ?_).trans
        (regRead_setAgenda s rest _)
      · exact fun h => hcmd (locate_eq_cmd.mp h)
      · exact fun h => hstatus (locate_eq_status.mp h)
      · exact fun h j hj => hrk (locate_eq_rksel.mp h) (rkwin_range_of_locate hj)
      · exact fun h j hj => hobs (locate_eq_obssel.mp h) (obswin_range_of_locate hj)

/-- Settles O49: each address leads to its register, and each window to the bytes its selector names. -/
theorem registerMapValues : Obligations.RegisterMapValues := by
  intro s
  refine ⟨fun j hj => ?_, rfl, rfl, rfl, rfl, rfl, rfl, rfl, ?_, ?_, fun a h => ?_⟩
  · have hstate := locate_stateByte ⟨j, hj⟩
    have hkey := locate_keyByte ⟨j, hj⟩
    have hrk := locate_rkwinByte ⟨j, hj⟩
    have hobs := locate_obswinByte ⟨j, hj⟩
    dsimp only at hstate hkey hrk hobs
    rw [hstate, hkey, hrk, hobs]
    exact ⟨rfl, rfl, fun h => rkwin_of_le s.w h hj, fun h => rkwin_of_gt s.w h _,
      fun h => obswin_of_le s.obs h _, fun h => obswin_of_gt s.obs h _⟩
  · rw [locate_eq_rksel.mpr rfl]
    exact BitVec.toNat_setWidth_of_le (by decide)
  · rw [locate_eq_obssel.mpr rfl]
    exact BitVec.toNat_setWidth_of_le (by decide)
  · rw [locate_eq_reserved.mpr h]
    rfl

/-- Settles O51: by whether a command in flight may change the address; PHASE stands at 0x26. -/
theorem busReadResult : Obligations.BusReadResult := by
  refine fun s a rest ha => ⟨fun h => ?_, fun c i hp hd hw => ?_⟩
  · refine step_read_exact (unspecified_of_not_inWriteSet fun c i hp hd => ?_) ha
    rcases h with hidle | ⟨c', hp', hw⟩
    · simp [hidle] at hp
    · obtain rfl : c' = c := Option.some.inj (hp'.symm.trans hp)
      exact hw i hd
  · refine ⟨_, step_read_free ((unspecified_busy hp hd _).trans hw) ha, ?_⟩
    rintro rfl
    exact freeByte_phase_le s.draws

/-- Settles O52: only an issue and a reset write WDROP, but for the dropped write itself. -/
theorem writeWhileBusyIsDropped : Obligations.WriteWhileBusyIsDropped :=
  ⟨fun _ _ _ _ hb ha => step_write_busy hb ha, fun _ _ hs h ht =>
    (step_wdrop hs h).resolve_left (by simp [ht])⟩

/-- Settles O53: the addresses named are exactly those of the places that no write reaches, and no command may
change a reserved one. -/
theorem reservedAndReadOnlyAddresses : Obligations.ReservedAndReadOnlyAddresses := by
  refine ⟨fun s a v rest hb ha h => ?_, fun s a rest ha h => ?_⟩
  · rw [step_write_idle hb ha, regWrite_ignored (ignoresWrites_locate.mpr h)]
    rfl
  · have hl : locate a = .reserved := locate_eq_reserved.mpr h
    have hexact : unspecified s (locate a) = false :=
      unspecified_of_not_inWriteSet fun _ _ _ _ => by simp [hl, inWriteSet]
    rw [step_read_exact hexact ha, hl]
    rfl

/-- Settles O54: the address 0x10 + i is KEY[i]'s. -/
theorem keyWriteClearsKeyValid : Obligations.KeyWriteClearsKeyValid := by
  intro s i v rest hi hb ha
  have hl : locate (BitVec.ofNat 8 (0x10 + i)) = .key ⟨i, hi⟩ := locate_keyByte ⟨i, hi⟩
  rw [step_write_idle hb ha, hl]
  rfl

/-- Settles O56: each address leads to its own write. -/
theorem plainWrites : Obligations.PlainWrites := by
  intro s a v rest hb ha
  rw [step_write_idle hb ha]
  refine ⟨fun h => ?_, ?_, ?_, ?_, ?_⟩
  · rw [locate_of_lt_key h]
    rfl
  · rintro rfl; rfl
  · rintro rfl; rfl
  · rintro rfl; exact ⟨_, rfl, rfl, extractLow_toNat v⟩
  · rintro rfl; exact ⟨_, rfl, rfl, extractLow_toNat v⟩

end Sys2Proof.Machine

/-! The command byte (30_encoding.md): the decoder said once by its fields, its agreement with the encoder and with
R95's legality, and what becomes of an illegal byte. -/

namespace Sys2Proof.Machine

open Sys2Proof

/-! ### The decoder by its fields -/

section
variable {c : Byte} {op : BitVec 4} {n : Nat} {i : Instr}

theorem legal_eq_true :
    legal c = true ↔ fieldRsv c = false ∧ fieldOp c ≠ 0xF#4 ∧ (fieldOp c = 0x3#4 ∨ fieldN c = 0#3) := by
  simp [legal, and_assoc]

/-- A byte decodes to `i` exactly when RSV is clear, OP selects `i`, and N is zero or used (R94, R97). -/
theorem decode_eq_ok :
    decode c = .ok i ↔
      fieldRsv c = false ∧ selectOp (fieldOp c) (fieldN c).toNat = some i ∧
        (fieldOp c = 0x3#4 ∨ fieldN c = 0#3) := by
  cases hr : fieldRsv c with
  | true => simp [decode, hr]
  | false =>
    cases hs : selectOp (fieldOp c) (fieldN c).toNat with
    | none => simp [decode, hr, hs]
    | some j =>
      by_cases hn : fieldOp c ≠ 0x3#4 ∧ fieldN c ≠ 0#3
      · simp [decode, hr, hs, hn]
      · have hused : fieldOp c = 0x3#4 ∨ fieldN c = 0#3 := by tauto
        simp [decode, hr, hs, hn, hused]

/-- Only the reserved OP selects nothing (R94). -/
theorem selectOp_eq_none : selectOp op n = none ↔ op = 0xF#4 := by
  rw [← BitVec.toNat_inj]
  have hop : op.toNat < 16 := op.isLt
  unfold selectOp
  generalize op.toNat = k at hop
  interval_cases k <;> simp

/-- Of the selected commands only MULXN has an operand, and that is the count it was given. -/
theorem wellFormed_of_selectOp (hn : n ≤ 7) (h : selectOp op n = some i) : wellFormed i = true := by
  cases i with
  | mulxn m =>
    have hm : m = n := by
      unfold selectOp at h
      split at h <;> cases h
      rfl
    simpa [wellFormed, hm] using hn
  | _ => rfl

/-- The legal bytes are those that decode to a command (R98). -/
theorem legal_iff_decode : legal c = true ↔ ∃ i, decode c = .ok i := by
  simp only [decode_eq_ok, exists_and_left, exists_and_right, ← Option.isSome_iff_exists,
    Option.isSome_iff_ne_none, ne_eq, selectOp_eq_none, legal_eq_true]

theorem decode_of_not_legal (h : legal c = false) : ∃ why, decode c = .illegal why := by
  cases hd : decode c with
  | ok i => simp [legal_iff_decode.mpr ⟨i, hd⟩] at h
  | illegal why => exact ⟨why, rfl⟩

/-! ### The encoder -/

/-- The count stands in bits 6:4 and reaches neither RSV nor OP (R92, R93). -/
theorem encode_mulxn_fields (hn : n ≤ 7) :
    fieldRsv (encode (.mulxn n)) = false ∧ fieldOp (encode (.mulxn n)) = 0x3#4 ∧
      (fieldN (encode (.mulxn n))).toNat = n := by
  interval_cases n <;> decide

theorem decode_encode_mulxn (hn : n ≤ 7) : decode (encode (.mulxn n)) = .ok (.mulxn n) := by
  obtain ⟨hrsv, hop, hcount⟩ := encode_mulxn_fields hn
  exact decode_eq_ok.mpr ⟨hrsv, by rw [hop, hcount]; rfl, .inl hop⟩

theorem decode_encode (h : wellFormed i = true) : decode (encode i) = .ok i := by
  cases i with
  | mulxn n => exact decode_encode_mulxn (of_decide_eq_true h)
  | _ => rfl

end

/-- Settles O1: MULXN's count survives in the field N, and each other command is one fixed byte. -/
theorem decodeOfEncode : Obligations.DecodeOfEncode := fun _ => decode_encode

/-- Settles O2: the count read from the 3-bit field N is at most 7. -/
theorem legalByteIsOneCommand : Obligations.LegalByteIsOneCommand := by
  intro c i h
  obtain ⟨-, hselect, -⟩ := decode_eq_ok.mp h
  have hcount : (fieldN c).toNat ≤ 7 := Nat.le_of_lt_succ (fieldN c).isLt
  exact ⟨wellFormed_of_selectOp hcount hselect, encode_of_decode h⟩

/-- Settles O3: the list and its length by evaluation; the illegal bytes are the others of the 256. -/
theorem legalBytes : Obligations.LegalBytes := by
  have hlegal : ((List.range 256).filter fun n => legal (BitVec.ofNat 8 n)).length = 22 := by decide +kernel
  refine ⟨fun c => legal_eq_true, by decide +kernel, hlegal, ?_⟩
  have hsplit := List.length_eq_length_filter_add (l := List.range 256) fun n => legal (BitVec.ofNat 8 n)
  rw [hlegal, List.length_range] at hsplit
  omega

/-- Settles O4: a legal byte's OP is one of the fifteen rows of the case table. -/
theorem decoderSelectsByOp : Obligations.DecoderSelectsByOp := by
  refine fun c => ⟨decode_of_not_legal, fun h => ?_⟩
  obtain ⟨hrsv, hop, hn⟩ := legal_eq_true.mp h
  have hrow : (c.extractLsb' 0 4).toNat < 15 :=
    Nat.lt_of_le_of_ne (Nat.le_of_lt_succ (fieldOp c).isLt) fun h15 => hop (BitVec.eq_of_toNat_eq h15)
  refine decode_eq_ok.mpr ⟨hrsv, ?_, hn⟩
  unfold selectOp fieldOp
  generalize (c.extractLsb' 0 4).toNat = k at hrow
  interval_cases k <;> rfl

/-- Settles O5: by evaluation of the decoder on the eleven bytes. -/
theorem writtenBytesDecode : Obligations.WrittenBytesDecode := by
  unfold Obligations.WrittenBytesDecode
  decide

/-! ### An illegal byte in flight -/

/-- Settles O7: each of the three causes makes the byte illegal, and the engine reports what the host's write
issued. -/
theorem illegalByteIsReported : Obligations.IllegalByteIsReported := by
  intro s c rest hcause hidle ha
  have hillegal : legal c = false := by
    rw [← Bool.not_eq_true, legal_eq_true]
    rintro ⟨hrsv, hop, hn⟩
    rcases hcause with h | h | ⟨hcount, hne⟩
    · exact absurd (h.symm.trans hrsv) (by decide)
    · exact hop h
    · exact hn.elim hne hcount
  obtain ⟨why, hd⟩ := decode_of_not_legal hillegal
  refine ⟨issue c (setAgenda (.complete :: rest) s), ?_, rfl, rfl, ?_⟩
  · rw [step_write_idle ((busy_eq_false s).mpr hidle) ha, locate_eq_cmd.mpr rfl, regWrite]
  · rw [step_of_agenda_cons rfl, runEvent, engineStep_busy rfl, completeByte_illegal hd]
    simp [errorEntry, errByte, issue, setAgenda]

end Sys2Proof.Machine

/-! The control of the engine (40_control.md): what the issue and the completion of a command do, and the frame of
every command. -/

namespace Sys2Proof.Machine

open Sys2Proof

/-! ### Completion (40_control.md R112) -/

section
variable {s t : State} {c : Byte} {i : Instr}

/-- Both ways of completing set DONE and take the command out of flight. -/
theorem exec_completes (i : Instr) (s : State) : ∃ t, exec i s = .next t ∧ t.done = true ∧ busy t = false := by
  cases hc : check i s with
  | none => exact ⟨_, exec_ok hc, rfl, rfl⟩
  | some e => exact ⟨_, exec_error hc, rfl, rfl⟩

/-- So does the completion of an illegal byte. -/
theorem completeByte_completes (c : Byte) (s : State) : ∃ t, completeByte c s = .next t ∧ busy t = false := by
  cases hd : decode c with
  | ok i =>
    obtain ⟨t, ht, -, hb⟩ := exec_completes i s
    exact ⟨t, (completeByte_ok hd s).trans ht, hb⟩
  | illegal why => exact ⟨_, completeByte_illegal hd s, rfl⟩

theorem engineStep_ok (hp : s.pending = some c) (hd : decode c = .ok i) : engineStep s = exec i s := by
  rw [engineStep_busy hp, completeByte_ok hd]

theorem step_of_agenda_complete {rest : List Event} (ha : s.agenda = .complete :: rest) :
    step s = engineStep (setAgenda rest s) := by
  rw [step_of_agenda_cons ha, runEvent]

end

/-! ### The frame of a command (40_control.md R115, R116)

What a command's own rule writes is one of the engine's writes, and each of these is in the command's write
set. -/

/-- The registers that only the host writes, and the model's fields for the host's side, are as before. -/
structure SameHostSide (s t : State) : Prop where
  key : t.key = s.key
  opa : t.opa = s.opa
  opb : t.opb = s.opb
  cmd : t.cmd = s.cmd
  rksel : t.rksel = s.rksel
  obssel : t.obssel = s.obssel
  wdrop : t.wdrop = s.wdrop
  params : t.params = s.params
  agenda : t.agenda = s.agenda
  returned : t.returned = s.returned
  draws : t.draws = s.draws

/-- From `s` to `t`, only what the command `i` may write has changed, the completion's own fields apart. -/
structure CommandFrame (i : Instr) (s t : State) : Prop extends SameHostSide s t where
  stateReg : writesState i = false → t.stateReg = s.stateReg
  res : writesRes i = false → t.res = s.res
  schedule : writesSchedule i = false → t.w = s.w ∧ t.keyValid = s.keyValid
  snapshots : writesSnapshots i = false → t.obs = s.obs ∧ t.phase = s.phase
  table : i ≠ .initinv → t.invtab = s.invtab ∧ t.invReady = s.invReady

theorem CommandFrame.refl (i : Instr) (s : State) : CommandFrame i s s where
  toSameHostSide := ⟨rfl, rfl, rfl, rfl, rfl, rfl, rfl, rfl, rfl, rfl, rfl⟩
  stateReg _ := rfl
  res _ := rfl
  schedule _ := ⟨rfl, rfl⟩
  snapshots _ := ⟨rfl, rfl⟩
  table _ := ⟨rfl, rfl⟩

section
variable {i : Instr} {s t : State} (h : CommandFrame i s t)
include h

theorem CommandFrame.setRes (hw : writesRes i = true) (v : Byte) : CommandFrame i s (setRes v t) :=
  { h with res := fun hn => by simp [hw] at hn }

theorem CommandFrame.setStateReg (hw : writesState i = true) (b : Block) : CommandFrame i s (setStateReg b t) :=
  { h with stateReg := fun hn => by simp [hw] at hn }

theorem CommandFrame.setTable (hi : i = .initinv) (T : Table) : CommandFrame i s (setTable T t) :=
  { h with table := fun hn => absurd hi hn }

theorem CommandFrame.setSchedule (hw : writesSchedule i = true) (w : Schedule) :
    CommandFrame i s (setSchedule w t) :=
  { h with schedule := fun hn => by simp [hw] at hn }

theorem CommandFrame.setCipher (hw : writesState i = true) (hw' : writesSnapshots i = true) (b : Block)
    (snap : Snapshots) : CommandFrame i s (setCipher b snap t) :=
  { h with
    stateReg := fun hn => by simp [hw] at hn
    snapshots := fun hn => by simp [hw'] at hn }

theorem CommandFrame.finish : CommandFrame i s (finish t) := { h with }
theorem CommandFrame.errorEntry (e : ErrCode) : CommandFrame i s (errorEntry e t) := { h with }

end

theorem performed_frame (i : Instr) (s : State) : CommandFrame i s (performed i s) := by
  have h : CommandFrame i s s := .refl i s
  rcases performed_cases i s with hp | ⟨hw, v, hp⟩ | ⟨hw, -, b, hp⟩ | ⟨hi, -, hp⟩ | ⟨rfl, hp⟩ | ⟨rfl, hp⟩ |
    ⟨rfl, hp⟩ <;> rw [hp]
  · exact h
  · exact h.setRes hw v
  · exact h.setStateReg hw b
  · exact h.setTable hi _
  · exact h.setSchedule rfl _
  · exact h.setCipher rfl rfl _ _
  · exact (h.setSchedule rfl _).setCipher rfl rfl _ _

section
variable {i : Instr} {s t : State}

theorem exec_frame (h : exec i s = .next t) : CommandFrame i s t := by
  rcases exec_cases h with ⟨-, rfl⟩ | ⟨e, -, rfl⟩
  · exact (performed_frame i s).finish
  · exact (CommandFrame.refl i s).errorEntry e

/-- What stands outside the write set reads as before, but for the two registers that report a completion. -/
theorem CommandFrame.regRead_eq {l : Loc} (h : CommandFrame i s t) (hw : inWriteSet i l = false)
    (hstatus : l ≠ .status) (herrcode : l ≠ .errcode) : regRead t l = regRead s l := by
  cases l with
  | state j => simp [regRead, h.stateReg hw]
  | key j => simp [regRead, h.key]
  | opa => exact h.opa
  | opb => exact h.opb
  | res => exact h.res hw
  | cmd => exact h.cmd
  | status => exact absurd rfl hstatus
  | errcode => exact absurd rfl herrcode
  | phase => exact (h.snapshots hw).2
  | rksel => simp [regRead, h.rksel]
  | obssel => simp [regRead, h.obssel]
  | rkwin j => simp [regRead, (h.schedule hw).1, h.rksel]
  | obswin j => simp [regRead, (h.snapshots hw).1, h.obssel]
  | reserved => rfl

/-! The commands that may write W, and OBS with PHASE (40_control.md R115). -/

theorem writesSchedule_eq_false (hkeyexp : i ≠ .keyexp) (henck : i ≠ .enck) : writesSchedule i = false := by
  cases i with
  | keyexp => exact absurd rfl hkeyexp
  | enck => exact absurd rfl henck
  | _ => rfl

theorem writesSnapshots_eq_false (henc : i ≠ .enc) (henck : i ≠ .enck) : writesSnapshots i = false := by
  cases i with
  | enc => exact absurd rfl henc
  | enck => exact absurd rfl henck
  | _ => rfl

theorem locate_eq_errcode {a : Byte} : locate a = .errcode ↔ a = 0x25#8 := locate_eq_iff nofun

/-- A write set as bus addresses, by the kinds of register that the command writes. The kinds are independent, so
this is an evaluation over them and the 256 addresses. -/
theorem inWriteSet_locate (i : Instr) (a : Byte) :
    inWriteSet i (locate a) = true ↔
      writesState i = true ∧ a.toNat ≤ 0x0F ∨ writesRes i = true ∧ a = 0x22#8 ∨
        writesSnapshots i = true ∧ a = 0x26#8 ∨ writesSchedule i = true ∧ 0x40 ≤ a.toNat ∧ a.toNat ≤ 0x4F ∨
          writesSnapshots i = true ∧ 0x50 ≤ a.toNat ∧ a.toNat ≤ 0x5F := by
  unfold inWriteSet
  generalize writesState i = state, writesRes i = res, writesSnapshots i = snapshots,
    writesSchedule i = schedule
  revert a
  cases state <;> cases res <;> cases snapshots <;> cases schedule <;> decide +kernel

/-! ### The scalar commands -/

/-- With a valid table no scalar command reports an error. -/
theorem check_of_writesRes (hw : writesRes i = true) (hr : s.invReady = true) : check i s = none := by
  cases i with
  | add | mulx | mulxn | mul => rfl
  | inv | sbox => simp [hr]
  | nop | initinv | keyexp | ark | sub | shr | mix | enc | enck => cases hw

/-- The operands and the table are all that a scalar command's rule reads. -/
theorem performed_res_congr {s' : State} (hw : writesRes i = true) (ha : s.opa = s'.opa)
    (hb : s.opb = s'.opb) (hT : s.invtab = s'.invtab) : (performed i s).res = (performed i s').res := by
  cases i with
  | add | mulx | mulxn | mul | inv | sbox => simp [performed, operandA, operandB, ha, hb, hT]
  | nop | initinv | keyexp | ark | sub | shr | mix | enc | enck => cases hw

/-! ### A command in flight beside host transactions (40_control.md R113) -/

theorem memRead_pending (a : Byte) (s : State) : (memRead a s).pending = s.pending := by
  obtain ⟨v, n, hr⟩ := memRead_cases s a
  rw [hr, logRead_pending]

theorem memRead_agenda (a : Byte) (s : State) : (memRead a s).agenda = s.agenda := by
  obtain ⟨v, n, hr⟩ := memRead_cases s a
  rw [hr, logRead_agenda]

/-- A read or a write while a command is in flight spends its event and leaves the command there. -/
theorem step_host_busy {e : Event} {rest : List Event} (hb : busy s = true) (ha : s.agenda = e :: rest)
    (he : ∃ a v, e = .read a ∨ e = .write a v) :
    ∃ u, step s = .next u ∧ u.pending = s.pending ∧ u.agenda = rest := by
  obtain ⟨a, v, rfl | rfl⟩ := he
  · exact ⟨_, step_of_agenda_cons ha, memRead_pending _ _, memRead_agenda _ _⟩
  · exact ⟨_, step_write_busy hb ha, rfl, rfl⟩

/-- When the host has nothing left to do, the engine's next move completes the command. -/
theorem step_alone_completes (hb : busy s = true) (ha : s.agenda = []) :
    ∃ u, step s = .next u ∧ busy u = false := by
  obtain ⟨c, hp⟩ := (busy_eq_true s).mp hb
  rw [step_of_agenda_nil ha, engineStep_busy hp]
  exact completeByte_completes c s

/-- By induction on the transactions that are left. -/
theorem run_host_completes (l : List Event) :
    ∀ s : State, s.agenda = l → (∀ e ∈ l, ∃ a v, e = .read a ∨ e = .write a v) → busy s = true →
      ∃ t, Host.Core.run Sys2Proof.core (l.length + 1) s = .next t ∧ busy t = false := by
  induction l with
  | nil =>
    intro s ha _ hb
    obtain ⟨u, hu, hidle⟩ := step_alone_completes hb ha
    exact ⟨u, run_succ hu 0, hidle⟩
  | cons e rest ih =>
    intro s ha hhost hb
    obtain ⟨u, hu, hp, ha'⟩ := step_host_busy hb ha (hhost e List.mem_cons_self)
    obtain ⟨t, ht, hidle⟩ := ih u ha' (fun e' he' => hhost e' (List.mem_cons_of_mem e he'))
      (by rwa [busy, hp])
    exact ⟨t, (run_succ hu _).trans ht, hidle⟩

end

/-- Settles O9: an error and a performed command end the same way. -/
theorem everyCommandCompletes : Obligations.EveryCommandCompletes := exec_completes

/-- Settles O15: the host's side of the command's frame. -/
theorem commandsKeepHostRegisters : Obligations.CommandsKeepHostRegisters := by
  intro i s t h
  have hf := exec_frame h
  exact ⟨hf.key, hf.opa, hf.opb, hf.cmd, hf.rksel, hf.obssel, hf.wdrop, hf.params, hf.agenda, hf.returned,
    hf.draws⟩

/-- Settles O17: the command's frame, read through the register map. -/
theorem commandsStayInWriteSet : Obligations.CommandsStayInWriteSet := by
  intro i s t h
  have hf := exec_frame h
  refine ⟨fun a hw hstatus herrcode => hf.regRead_eq hw ?_ ?_, fun hkeyexp henck => ?_, fun henc henck => ?_,
    hf.table⟩
  · exact fun hl => hstatus (locate_eq_status.mp hl)
  · exact fun hl => herrcode (locate_eq_errcode.mp hl)
  · exact hf.schedule (writesSchedule_eq_false hkeyexp henck)
  · exact hf.snapshots (writesSnapshots_eq_false henc henck)

/-- Settles O18: with a valid table both commands are performed, and the rule reads the operands and the table
only. -/
theorem scalarResultReadsOperandsOnly : Obligations.ScalarResultReadsOperandsOnly := by
  intro i s s' t t' hw h h' ha hb hT hr hr'
  rw [exec_ok (check_of_writesRes hw hr)] at h
  rw [exec_ok (check_of_writesRes hw hr')] at h'
  obtain rfl := Host.Outcome.next.inj h
  obtain rfl := Host.Outcome.next.inj h'
  rw [finish_res, finish_res]
  exact performed_res_congr hw ha hb hT

/-- Settles O58: a host transaction only drops out of the agenda, so the engine moves in the end. -/
theorem pendingCommandCompletes : Obligations.PendingCommandCompletes := by
  refine ⟨fun s t c a v rest hp ha ht => ?_, fun s => run_host_completes s.agenda s rfl⟩
  have hb : busy s = true := (busy_eq_true s).mpr ⟨c, hp⟩
  have hstep : ∃ u, step s = .next u ∧ u.pending = s.pending ∧ u.agenda = rest :=
    ha.elim (step_host_busy hb · ⟨a, v, .inl rfl⟩) (step_host_busy hb · ⟨a, v, .inr rfl⟩)
  obtain ⟨u, hu, hpending, -⟩ := hstep
  obtain rfl := Host.Outcome.next.inj (hu.symm.trans ht)
  exact hpending.trans hp

/-- Settles O6: the engine's move alone and by the agenda, with a command in flight and without. -/
theorem stepRunsPendingCommand : Obligations.StepRunsPendingCommand := by
  refine ⟨fun s c i hp hd => ⟨fun ha => ?_, fun rest ha => ?_⟩, fun s hp => ⟨fun ha => ?_, fun rest ha => ?_⟩⟩
  · rw [step_of_agenda_nil ha, engineStep_ok hp hd]
  · rw [step_of_agenda_complete ha, engineStep_ok (s := setAgenda rest s) hp hd, setAgenda]
  · rw [step_of_agenda_nil ha, engineStep_idle hp]
  · rw [step_of_agenda_complete ha, engineStep_idle (s := setAgenda rest s) hp, setAgenda]

/-- Settles O16: command by command, the kinds of register it writes, as addresses. -/
theorem writeSetAddresses : Obligations.WriteSetAddresses := by
  intro a
  simp only [← Bool.not_eq_true, inWriteSet_locate]
  refine ⟨fun i hi => ?_, fun i n hi => ?_, ?_, fun i hi => ?_, ?_, ?_⟩
  case' refine_1 => rcases hi with rfl | rfl
  case' refine_2 => rcases hi with rfl | rfl | rfl | rfl | rfl | rfl
  case' refine_4 => rcases hi with rfl | rfl | rfl | rfl
  all_goals simp [writesState, writesRes, writesSnapshots, writesSchedule]

/-- Settles O55: the address 0x23 is CMD's, and the issue asks nothing of the byte. -/
theorem cmdWriteIssues : Obligations.CmdWriteIssues := by
  refine fun s v rest ha => ⟨fun hb => ⟨issue v (setAgenda rest s), ?_, rfl, rfl⟩, fun hb => ?_⟩
  · rw [step_write_idle hb ha, locate_eq_cmd.mpr rfl, regWrite]
  · exact step_write_busy hb ha

/-- Settles O23: NOP's check passes in every state and its rule writes nothing, so what is left is its issue. -/
theorem nopOnlyCompletes : Obligations.NopOnlyCompletes := by
  have hdecode : decode 0x00#8 = .ok .nop := by decide
  have hexec (s : State) : exec .nop s = .next (finish s) := exec_ok (check_nop s)
  refine ⟨hdecode, hexec, check_nop, fun s rest hp ha => ?_⟩
  obtain ⟨t, ht, -, rfl⟩ := (cmdWriteIssues s 0x00#8 _ ha).1 ((busy_eq_false s).mpr hp)
  refine ⟨_, ht, ?_⟩
  rw [step_of_agenda_complete rfl, engineStep_ok rfl hdecode, hexec]
  simp [finish, setAgenda, hp]

end Sys2Proof.Machine

/-! The arithmetic of GF(2⁸) (41_field_arithmetic.md): multiplication by x and the product are linear, and the laws of
the field follow by induction on a byte as a sum of powers of x; then the four commands that use them. -/

namespace Sys2Proof.Machine

open Sys2Proof

/-! ### Multiplication by x (R131, R132) -/

theorem xtime_xor (a b : Byte) : xtime (a ^^^ b) = xtime a ^^^ xtime b := by
  have hconst : (if (a ^^^ b).getLsbD 7 then 0x1B#8 else 0x00#8) =
      (if a.getLsbD 7 then 0x1B#8 else 0x00#8) ^^^ (if b.getLsbD 7 then 0x1B#8 else 0x00#8) := by
    rw [BitVec.getLsbD_xor]
    cases a.getLsbD 7 <;> cases b.getLsbD 7 <;> rfl
  rw [xtime, hconst, BitVec.shiftLeft_xor_distrib, xtime, xtime]
  ac_rfl

@[simp] theorem xtimes_zero (a : Byte) : xtimes a 0 = a := rfl

theorem xtimes_succ (a : Byte) (n : Nat) : xtimes a (n + 1) = xtime (xtimes a n) := rfl

theorem xtimes_xtime (a : Byte) (n : Nat) : xtimes (xtime a) n = xtime (xtimes a n) := by
  induction n with
  | zero => rfl
  | succ n ih => rw [xtimes_succ, ih, xtimes_succ]

theorem xtimes_xor (a b : Byte) (n : Nat) : xtimes (a ^^^ b) n = xtimes a n ^^^ xtimes b n := by
  induction n with
  | zero => rfl
  | succ n ih => simp only [xtimes_succ, ih, xtime_xor]

/-- The byte 2ⁿ is xⁿ: no doubling before the eighth reduces. -/
theorem ofNat_two_pow {n : Nat} (h : n ≤ 7) : BitVec.ofNat 8 (2 ^ n) = xtimes 0x01#8 n := by
  interval_cases n <;> rfl

/-! ### The product as a sum over the bits of its second factor (R133) -/

/-- What bit `i` of `b` adds to the product of `a` and `b`. -/
def bitTerm (a b : Byte) (i : Nat) : Byte := if b.getLsbD i = true then xtimes a i else 0x00#8

theorem xtime_bitTerm (a b : Byte) (i : Nat) : xtime (bitTerm a b i) = bitTerm (xtime a) b i := by
  rw [bitTerm, apply_ite xtime, ← xtimes_xtime]
  rfl

theorem bitTerm_xor_left (a b c : Byte) (i : Nat) :
    bitTerm (a ^^^ b) c i = bitTerm a c i ^^^ bitTerm b c i := by
  unfold bitTerm
  split
  · exact xtimes_xor a b i
  · rfl

theorem bitTerm_xor_right (a b c : Byte) (i : Nat) :
    bitTerm a (b ^^^ c) i = bitTerm a b i ^^^ bitTerm a c i := by
  simp only [bitTerm, BitVec.getLsbD_xor]
  cases b.getLsbD i <;> cases c.getLsbD i <;> simp

theorem gmul_eq_foldl (a b : Byte) :
    gmul a b = (List.range 8).foldl (fun r i => r ^^^ bitTerm a b i) 0x00#8 := by
  have hstep (r : Byte) (i : Nat) :
      (if b.getLsbD i = true then gadd r (xtimes a i) else r) = r ^^^ bitTerm a b i := by
    unfold bitTerm
    split
    · rfl
    · exact (BitVec.xor_zero).symm
  simp only [gmul, hstep]

theorem gmul_eq_xor (a b : Byte) :
    gmul a b = bitTerm a b 0 ^^^ bitTerm a b 1 ^^^ bitTerm a b 2 ^^^ bitTerm a b 3 ^^^ bitTerm a b 4 ^^^
      bitTerm a b 5 ^^^ bitTerm a b 6 ^^^ bitTerm a b 7 := by
  rw [gmul_eq_foldl, ← BitVec.zero_xor (x := bitTerm a b 0)]
  rfl

/-! ### Linearity in each factor -/

theorem xor_gmul (a b c : Byte) : gmul (a ^^^ b) c = gmul a c ^^^ gmul b c := by
  simp only [gmul_eq_foldl, bitTerm_xor_left]
  refine List.foldl_hom₂ _ (· ^^^ ·) _ _ _ 0x00#8 0x00#8 fun r r' i => ?_
  ac_rfl

theorem gmul_xor (a b c : Byte) : gmul a (b ^^^ c) = gmul a b ^^^ gmul a c := by
  simp only [gmul_eq_foldl, bitTerm_xor_right]
  refine List.foldl_hom₂ _ (· ^^^ ·) _ _ _ 0x00#8 0x00#8 fun r r' i => ?_
  ac_rfl

theorem xtime_gmul (a b : Byte) : gmul (xtime a) b = xtime (gmul a b) := by
  simp only [gmul_eq_foldl, ← xtime_bitTerm]
  exact List.foldl_hom xtime (init := 0x00#8) fun r i => (xtime_xor r (bitTerm a b i)).symm

@[simp] theorem gmul_zero (a : Byte) : gmul a 0x00#8 = 0x00#8 := rfl

@[simp] theorem gmul_one (a : Byte) : gmul a 0x01#8 = a := by
  rw [gmul_eq_xor]
  simp [bitTerm]

/-- A byte is the sum of the powers of x that its bits select. -/
@[simp] theorem one_gmul (b : Byte) : gmul 0x01#8 b = b := by revert b; decide +kernel

/-- Induction on a byte: every one is made from 1 by doubling and adding. -/
theorem byte_induction {P : Byte → Prop} (one : P 0x01#8) (double : ∀ a, P a → P (xtime a))
    (add : ∀ a b, P a → P b → P (a ^^^ b)) (a : Byte) : P a := by
  have power (n : Nat) : P (xtimes 0x01#8 n) := by
    induction n with
    | zero => exact one
    | succ n ih => exact double _ ih
  have zero : P 0x00#8 := add _ _ one one
  have term (i : Nat) : P (bitTerm 0x01#8 a i) := by
    unfold bitTerm
    split
    · exact power i
    · exact zero
  rw [← one_gmul a, gmul_eq_foldl]
  exact List.foldlRecOn _ _ zero fun r hr i _ => add r _ hr (term i)

/-! ### The laws (R134) -/

/-- Doubling the second factor, too, doubles the product: by induction on the first. -/
theorem gmul_xtime (a b : Byte) : gmul a (xtime b) = xtime (gmul a b) := by
  induction a using byte_induction with
  | one => simp only [one_gmul]
  | double a ih => rw [xtime_gmul, ih, xtime_gmul]
  | add a a' ih ih' => rw [xor_gmul, ih, ih', ← xtime_xor, ← xor_gmul]

theorem gmul_comm (a b : Byte) : gmul a b = gmul b a := by
  induction b using byte_induction with
  | one => rw [gmul_one, one_gmul]
  | double b ih => rw [gmul_xtime, ih, xtime_gmul]
  | add b b' ih ih' => rw [gmul_xor, ih, ih', xor_gmul]

theorem gmul_assoc (a b c : Byte) : gmul (gmul a b) c = gmul a (gmul b c) := by
  induction c using byte_induction with
  | one => simp only [gmul_one]
  | double c ih => simp only [gmul_xtime, ih]
  | add c c' ih ih' => simp only [gmul_xor, ih, ih']

@[simp] theorem zero_gmul (a : Byte) : gmul 0x00#8 a = 0x00#8 := by rw [gmul_comm, gmul_zero]

theorem gmul_xtimes_one (a : Byte) (n : Nat) : gmul a (xtimes 0x01#8 n) = xtimes a n := by
  induction n with
  | zero => exact gmul_one a
  | succ n ih => rw [xtimes_succ, gmul_xtime, ih, xtimes_succ]

/-- The ROM's entry of a nonzero byte is an inverse of it (42_inverse_table.md R153). -/
theorem invRom_gmul : ∀ a : Byte, a ≠ 0x00#8 → gmul (tableEntry invRom a) a = 0x01#8 := by decide +kernel

/-- A nonzero factor can be divided out: multiply by its inverse. -/
theorem eq_invRom_gmul {a b c : Byte} (ha : a ≠ 0x00#8) (h : gmul a b = c) :
    b = gmul (tableEntry invRom a) c := by
  rw [← h, ← gmul_assoc, invRom_gmul a ha, one_gmul]

theorem gmul_eq_zero {a b : Byte} : gmul a b = 0x00#8 ↔ a = 0x00#8 ∨ b = 0x00#8 := by
  refine ⟨fun h => or_iff_not_imp_left.mpr fun ha => ?_, ?_⟩
  · exact (eq_invRom_gmul ha h).trans (gmul_zero _)
  · rintro (rfl | rfl)
    · exact zero_gmul b
    · exact gmul_zero a

/-- Settles O31: each law by its lemma; 2 is the first power of x. -/
theorem gmulLawsOfTheSource : Obligations.GmulLawsOfTheSource := by
  have hpow (a : Byte) (n : Nat) (h : n ≤ 7) : xtimes a n = gmul a (BitVec.ofNat 8 (2 ^ n)) := by
    rw [ofNat_two_pow h, gmul_xtimes_one]
  exact ⟨gmul_comm, gmul_xor, fun a => ⟨gmul_one a, gmul_zero a⟩, hpow, fun a => hpow a 1 (by decide)⟩

/-- Settles O32: by induction on the third factor. -/
theorem gmulIsAssociative : Obligations.GmulIsAssociative := gmul_assoc

/-- Settles O33: the ROM gives an inverse, and with associativity it is the only one. -/
theorem gmulHasInverses : Obligations.GmulHasInverses := by
  refine ⟨fun _ _ => gmul_eq_zero, fun a ha => ⟨tableEntry invRom a, ?_, fun b hb => ?_⟩⟩
  · exact (gmul_comm _ _).trans (invRom_gmul a ha)
  · exact (eq_invRom_gmul ha hb).trans (gmul_one _)

/-! ### The commands (R135 to R138)

None of the four is ever refused by the check, so each completes with its product or sum in RES. -/

/-- The reduction of R131 in 9 bits, the bit shifted out kept: it is bit 8 of 0x11B. -/
theorem xtime_zeroExtend (a : Byte) :
    (xtime a).zeroExtend 9 =
      (a.zeroExtend 9 <<< 1) ^^^ (if a.getLsbD 7 = true then 0x11B#9 else 0x000#9) := by
  revert a; decide +kernel

/-- The count's byte as a number (R137). -/
theorem encode_mulxn {n : Nat} (h : n ≤ 7) : encode (.mulxn n) = BitVec.ofNat 8 (16 * n + 3) := by
  interval_cases n <;> rfl

/-- Settles O24: ADD's check never fails. -/
theorem addResult : Obligations.AddResult :=
  ⟨rfl, fun s => exec_ok (check_add s), fun _ _ => rfl, fun _ => BitVec.xor_self, fun _ => BitVec.xor_zero,
    rfl⟩

/-- Settles O25: MULX's check never fails. -/
theorem mulxResult : Obligations.MulxResult :=
  ⟨rfl, fun s => exec_ok (check_mulx s), fun _ => rfl, xtime_zeroExtend, fun a => by simp,
    rfl, rfl, rfl, rfl, rfl⟩

/-- Settles O26: MULXN's check never fails, and the decoder gives well-formed counts only. -/
theorem mulxnResult : Obligations.MulxnResult := by
  refine ⟨fun n h => ?_, fun c n h => ?_, fun n s => exec_ok (check_mulxn n s), xtimes_zero, xtimes_succ,
    fun _ => rfl, rfl, rfl, rfl⟩
  · rw [← encode_mulxn h, decode_encode_mulxn h]
  · exact of_decide_eq_true (legalByteIsOneCommand c (.mulxn n) h).1

/-- Settles O27: MUL's check never fails. -/
theorem mulResult : Obligations.MulResult :=
  ⟨rfl, fun s => exec_ok (check_mul s), gmul_eq_xor, fun a => ⟨gmul_zero a, zero_gmul a, gmul_one a⟩,
    rfl, rfl, rfl, rfl, rfl⟩

end Sys2Proof.Machine

/-! The inverse table (42_inverse_table.md): the two walks of the builder, what its loop writes, the table as the
inverses of the field, and the two commands that use it. -/

namespace Sys2Proof.Machine

open Sys2Proof

/-! ### Inverses in the field (R153) -/

theorem ne_zero_of_gmul_eq_one {a b : Byte} (h : gmul a b = 0x01#8) : a ≠ 0x00#8 := by
  rintro rfl
  simp at h

theorem inverse_unique {a b c : Byte} (hb : gmul a b = 0x01#8) (hc : gmul a c = 0x01#8) : b = c :=
  have ha := ne_zero_of_gmul_eq_one hb
  (eq_invRom_gmul ha hb).trans (eq_invRom_gmul ha hc).symm

/-- In characteristic 2 only 1 is its own inverse: the square of a ⊕ 1 is the square of a, plus 1. -/
theorem eq_one_of_gmul_self {a : Byte} (h : gmul a a = 0x01#8) : a = 0x01#8 := by
  have hsquare : gmul (a ^^^ 0x01#8) (a ^^^ 0x01#8) = 0x00#8 := by
    simp [gmul_xor, xor_gmul, h, BitVec.xor_comm 0x01#8 a]
  exact BitVec.xor_eq_zero_iff.mp (or_self_iff.mp (gmul_eq_zero.mp hsquare))

/-! ### The walks of the builder (R151) -/

/-- The address that the builder writes in iteration `k`, 0x03^k. -/
def addressWalk (k : Nat) : Byte := (fun i => gmul i 0x03#8)^[k] 0x01#8

/-- The entry that the builder writes in iteration `k`, 0xF6^k. -/
def entryWalk (k : Nat) : Byte := (fun j => gmul j 0xF6#8)^[k] 0x01#8

theorem addressWalk_succ (k : Nat) : addressWalk (k + 1) = gmul (addressWalk k) 0x03#8 :=
  Function.iterate_succ_apply' _ _ _

theorem entryWalk_succ (k : Nat) : entryWalk (k + 1) = gmul (entryWalk k) 0xF6#8 :=
  Function.iterate_succ_apply' _ _ _

/-- The entry is the inverse of the address, because 0xF6 is the inverse of 0x03. -/
theorem addressWalk_gmul_entryWalk (k : Nat) : gmul (addressWalk k) (entryWalk k) = 0x01#8 := by
  have hpair : gmul 0x03#8 0xF6#8 = 0x01#8 := rfl
  induction k with
  | zero => rfl
  | succ k ih =>
    calc
      gmul (addressWalk (k + 1)) (entryWalk (k + 1))
        = gmul (gmul (addressWalk k) 0x03#8) (gmul 0xF6#8 (entryWalk k)) := by
          rw [addressWalk_succ, entryWalk_succ, gmul_comm (entryWalk k)]
      _ = gmul (addressWalk k) (gmul (gmul 0x03#8 0xF6#8) (entryWalk k)) := by simp only [gmul_assoc]
      _ = 0x01#8 := by rw [hpair, one_gmul, ih]

theorem addressWalk_ne_zero (k : Nat) : addressWalk k ≠ 0x00#8 :=
  ne_zero_of_gmul_eq_one (addressWalk_gmul_entryWalk k)

theorem addressWalk_255 : addressWalk 255 = 0x01#8 := by decide +kernel

/-- The multiplicative order of 0x03 is 255: 0x03^255 is 1, and no proper divisor of 255 is an exponent of 1. -/
theorem minimalPeriod_addressWalk : Function.minimalPeriod (fun i => gmul i 0x03#8) 0x01#8 = 255 := by
  have hproper : ∀ d ∈ Nat.properDivisors 255, addressWalk d ≠ 0x01#8 := by decide +kernel
  have hdvd := Function.IsPeriodicPt.minimalPeriod_dvd (f := fun i => gmul i 0x03#8) addressWalk_255
  by_contra hne
  exact hproper _ (Nat.mem_properDivisors.mpr ⟨hdvd, (Nat.le_of_dvd (by decide) hdvd).lt_of_ne hne⟩)
    (Function.isPeriodicPt_minimalPeriod _ _)

theorem addressWalk_eq_one {k : Nat} : addressWalk k = 0x01#8 ↔ 255 ∣ k := by
  rw [← minimalPeriod_addressWalk]
  exact Function.isPeriodicPt_iff_minimalPeriod_dvd

theorem addressWalk_inj {k m : Nat} (hk : k < 255) (hm : m < 255) :
    addressWalk k = addressWalk m ↔ k = m := by
  rw [← minimalPeriod_addressWalk] at hk hm
  exact Function.iterate_eq_iterate_iff_of_lt_minimalPeriod hk hm

/-- Where the walks meet, the byte is its own inverse, so it is 1. -/
theorem walks_meet {k : Nat} : addressWalk k = entryWalk k ↔ 255 ∣ k := by
  have hinv := addressWalk_gmul_entryWalk k
  rw [← addressWalk_eq_one]
  constructor
  · intro h
    rw [← h] at hinv
    exact eq_one_of_gmul_self hinv
  · intro h
    rw [h, one_gmul] at hinv
    exact h.trans hinv.symm

theorem toNat_mem_Ico_of_ne_zero {a : Byte} (ha : a ≠ 0x00#8) : a.toNat ∈ Finset.Ico 1 256 := by
  have hpos : a.toNat ≠ 0 := fun h => ha (BitVec.eq_of_toNat_eq h)
  exact Finset.mem_Ico.mpr ⟨Nat.pos_of_ne_zero hpos, a.isLt⟩

/-- 255 different nonzero bytes are all the nonzero bytes. -/
theorem exists_addressWalk_eq {a : Byte} (ha : a ≠ 0x00#8) : ∃ k < 255, addressWalk k = a := by
  have hmaps : Set.MapsTo (fun k => (addressWalk k).toNat) (Finset.range 255) (Finset.Ico 1 256) :=
    fun k _ => Finset.mem_coe.mpr (toNat_mem_Ico_of_ne_zero (addressWalk_ne_zero k))
  have hinj : Set.InjOn (fun k => (addressWalk k).toNat) (Finset.range 255) := by
    intro k hk m hm h
    exact (addressWalk_inj (by simpa using hk) (by simpa using hm)).mp (BitVec.eq_of_toNat_eq h)
  obtain ⟨k, hk, h⟩ := Finset.surjOn_of_injOn_of_card_le _ hmaps hinj (by simp)
    (Finset.mem_coe.mpr (toNat_mem_Ico_of_ne_zero ha))
  exact ⟨k, by simpa using hk, BitVec.eq_of_toNat_eq h⟩

/-! ### What the builder's loop writes (R150, R151) -/

theorem tableEntry_set (T : Table) (i j a : Byte) :
    tableEntry (T.set i.toNat j i.isLt) a = if i = a then j else tableEntry T a := by
  simp [tableEntry, Vector.getElem_set, BitVec.toNat_inj]

/-- The write of iteration `k`. -/
def writeIteration (k : Nat) (T : Table) : Table :=
  T.set (addressWalk k).toNat (entryWalk k) (addressWalk k).isLt

theorem tableEntry_writeIteration {k m : Nat} (hk : k < 255) (hm : m < 255) (T : Table) :
    tableEntry (writeIteration k T) (addressWalk m) =
      if k = m then entryWalk k else tableEntry T (addressWalk m) := by
  simp only [writeIteration, tableEntry_set, addressWalk_inj hk hm]

/-- One iteration of the loop in step with the walks: its test stops it only where they first meet. -/
theorem buildLoop_walk {k : Nat} (hk : k < 255) (n : Nat) (T : Table) :
    buildLoop (n + 1) T (addressWalk k) (entryWalk k) =
      if k + 1 = 255 then writeIteration k T
      else buildLoop n (writeIteration k T) (addressWalk (k + 1)) (entryWalk (k + 1)) := by
  have hmeet : addressWalk (k + 1) = entryWalk (k + 1) ↔ k + 1 = 255 := by
    rw [walks_meet]
    omega
  simp only [buildLoop, ← addressWalk_succ, ← entryWalk_succ, hmeet, writeIteration]

/-- The loop from its iteration `k` on: within `n` more iterations it writes the entries `k` to `k + n - 1`. -/
theorem tableEntry_buildLoop_walk {m : Nat} (hm : m < 255) (n : Nat) :
    ∀ (k : Nat) (T : Table), k + n ≤ 255 →
      tableEntry (buildLoop n T (addressWalk k) (entryWalk k)) (addressWalk m) =
        if k ≤ m ∧ m < k + n then entryWalk m else tableEntry T (addressWalk m) := by
  induction n with
  | zero =>
    intro k T _
    have hnone : ¬(k ≤ m ∧ m < k + 0) := by omega
    rw [if_neg hnone, buildLoop]
  | succ n ih =>
    intro k T hkn
    have hk : k < 255 := by omega
    rw [buildLoop_walk hk]
    by_cases hlast : k + 1 = 255
    · rw [if_pos hlast, tableEntry_writeIteration hk hm]
      grind
    · rw [if_neg hlast, ih (k + 1) _ (by omega), tableEntry_writeIteration hk hm]
      grind

/-- From its iteration `k` on, the loop has stopped by itself within the iterations left of the 255. -/
theorem buildLoop_walk_stops (n r : Nat) :
    ∀ (k : Nat) (T : Table), k + (r + 1) = 255 →
      buildLoop (r + 1 + n) T (addressWalk k) (entryWalk k) =
        buildLoop (r + 1) T (addressWalk k) (entryWalk k) := by
  induction r with
  | zero =>
    intro k T hk
    rw [Nat.add_right_comm 0 1 n, buildLoop_walk (by omega), buildLoop_walk (by omega), if_pos hk, if_pos hk]
  | succ r ih =>
    intro k T hk
    have hgo : k + 1 ≠ 255 := by omega
    rw [Nat.add_right_comm (r + 1) 1 n, buildLoop_walk (by omega), buildLoop_walk (by omega), if_neg hgo,
      if_neg hgo]
    exact ih (k + 1) _ (by omega)

/-- No iteration writes at 0, from any address but 0 itself. -/
theorem tableEntry_buildLoop_zero (n : Nat) :
    ∀ (T : Table) (i j : Byte), i ≠ 0x00#8 → tableEntry (buildLoop n T i j) 0x00#8 = tableEntry T 0x00#8 := by
  induction n with
  | zero => exact fun _ _ _ _ => rfl
  | succ n ih =>
    intro T i j hi
    have hset : tableEntry (T.set i.toNat j i.isLt) 0x00#8 = tableEntry T 0x00#8 := by
      rw [tableEntry_set, if_neg hi]
    have hnext : gmul i 0x03#8 ≠ 0x00#8 := by simp [gmul_eq_zero, hi]
    simp only [buildLoop]
    split
    · exact hset
    · exact (ih _ _ _ hnext).trans hset

/-- Settles O35: the walks are inverse to each other and 0x03 has order 255, so they first meet at the end; the
entries and the stop follow by induction on the iterations. -/
theorem builderRuns255Iterations : Obligations.BuilderRuns255Iterations := by
  have hstop (n : Nat) (T : Table) : buildLoop (255 + n) T 0x01#8 0x01#8 = buildLoop 255 T 0x01#8 0x01#8 :=
    buildLoop_walk_stops n 254 0 T rfl
  have hmeet : addressWalk 255 = entryWalk 255 := walks_meet.mpr (dvd_refl 255)
  have hnodup : ((List.range 255).map addressWalk).Nodup :=
    List.nodup_range.map_on fun k hk m hm =>
      (addressWalk_inj (List.mem_range.mp hk) (List.mem_range.mp hm)).mp
  refine ⟨hstop, fun n => hstop n _, fun T k m hk hm => ?_, fun T k => ?_, fun k hpos hlt h => ?_,
    addressWalk_255, hmeet.symm.trans addressWalk_255, hnodup, fun a => exists_addressWalk_eq⟩
  · have hwritten : 0 ≤ m ∧ m < 0 + k ↔ m < k := by omega
    exact (tableEntry_buildLoop_walk hm k 0 T (by omega)).trans (if_congr hwritten rfl rfl)
  · exact tableEntry_buildLoop_zero k T 0x01#8 0x01#8 (by decide)
  · exact Nat.not_dvd_of_pos_of_lt hpos hlt (walks_meet.mp h)

/-- Settles O34: by evaluation of the builder. -/
theorem romIsTheBuildersTable : Obligations.RomIsTheBuildersTable := buildInv_eq_invRom

/-! ### The table as the inverses of the field (R153) -/

@[simp] theorem tableEntry_buildInv_zero : tableEntry buildInv 0x00#8 = 0x00#8 :=
  tableEntry_buildLoop_zero 255 _ 0x01#8 0x01#8 (by decide)

theorem tableEntry_buildInv_walk {m : Nat} (hm : m < 255) :
    tableEntry buildInv (addressWalk m) = entryWalk m :=
  (tableEntry_buildLoop_walk hm 255 0 _ le_rfl).trans (if_pos ⟨Nat.zero_le m, by omega⟩)

theorem gmul_tableEntry_buildInv {a : Byte} (ha : a ≠ 0x00#8) : gmul a (tableEntry buildInv a) = 0x01#8 := by
  obtain ⟨k, hk, rfl⟩ := exists_addressWalk_eq ha
  rw [tableEntry_buildInv_walk hk, addressWalk_gmul_entryWalk]

/-- The table's entry is the only inverse there is. -/
theorem tableEntry_buildInv_of_gmul {a b : Byte} (h : gmul a b = 0x01#8) : tableEntry buildInv a = b :=
  inverse_unique (gmul_tableEntry_buildInv (ne_zero_of_gmul_eq_one h)) h

theorem tableEntry_buildInv_involutive : Function.Involutive (tableEntry buildInv) := by
  intro a
  by_cases ha : a = 0x00#8
  · simp [ha]
  · exact tableEntry_buildInv_of_gmul ((gmul_comm _ _).trans (gmul_tableEntry_buildInv ha))

theorem tableEntry_buildInv_eq_self {a : Byte} : tableEntry buildInv a = a ↔ a = 0x00#8 ∨ a = 0x01#8 := by
  refine ⟨fun h => or_iff_not_imp_left.mpr fun ha => ?_, ?_⟩
  · have hself := gmul_tableEntry_buildInv ha
    rw [h] at hself
    exact eq_one_of_gmul_self hself
  · rintro (rfl | rfl)
    · exact tableEntry_buildInv_zero
    · exact tableEntry_buildInv_of_gmul rfl

/-- Settles O36: an entry is the one inverse of its address, and only 1 is its own. -/
theorem tableHoldsInverses : Obligations.TableHoldsInverses :=
  ⟨fun _ => gmul_tableEntry_buildInv, tableEntry_buildInv_zero, tableEntry_buildInv_involutive.bijective,
    tableEntry_buildInv_involutive, fun _ => tableEntry_buildInv_eq_self⟩

/-! ### The commands (R154, R155) -/

/-- Settles O28: INV's check reads INV_READY only, and each corner value is an inverse by multiplication. -/
theorem invResult : Obligations.InvResult := by
  refine ⟨rfl, fun s hr => exec_ok (by simp [hr]), fun s hr => ?_, tableEntry_buildInv_zero,
    tableEntry_buildInv_of_gmul rfl, tableEntry_buildInv_of_gmul rfl, tableEntry_buildInv_of_gmul rfl,
    tableEntry_buildInv_of_gmul rfl, rfl⟩
  exact ⟨_, exec_error (e := .invtabNotInit) (by simp [hr]), rfl, rfl, rfl⟩

/-- INITINV's rule by the table's valid bit, its check never failing. -/
theorem exec_initinv (s : State) :
    exec .initinv s = .next (finish (if s.invReady then s else setTable buildInv s)) :=
  exec_ok (check_initinv s)

/-- Settles O29: INITINV's check never fails; of STATUS it writes INV_READY and DONE. -/
theorem initinvResult : Obligations.InitinvResult := by
  refine ⟨rfl, fun s hr => ?_, fun s hr => ?_, check_initinv, rfl, ?_⟩
  · rw [exec_initinv, if_neg (by simp [hr]), setTable, finish]
  · rw [exec_initinv, if_pos hr, finish]
  · exact ⟨_, (step_withFetchWord (by decide)).trans (exec_initinv _), rfl⟩

end Sys2Proof.Machine

/-! The S-box (43_sbox.md): the affine transform and its inverse, the S-box over the builder's table, and the command
SBOX. -/

namespace Sys2Proof.Machine

open Sys2Proof

/-! ### The affine transform (R170, R171) -/

theorem rotl8_eq_rotateLeft {n : Nat} (hn : n < 8) (b : Byte) : rotl8 b n = b.rotateLeft n := by
  rw [rotl8, BitVec.rotateLeft_def, Nat.mod_eq_of_lt hn]

/-- What the S-box does to the entry it looks up. -/
def affine (b : Byte) : Byte :=
  b ^^^ rotl8 b 1 ^^^ rotl8 b 2 ^^^ rotl8 b 3 ^^^ rotl8 b 4 ^^^ 0x63#8

theorem sbox_eq_affine (T : Table) (a : Byte) : sbox T a = affine (tableEntry T a) := rfl

theorem affine_eq_rotateLeft (b : Byte) :
    affine b =
      b ^^^ b.rotateLeft 1 ^^^ b.rotateLeft 2 ^^^ b.rotateLeft 3 ^^^ b.rotateLeft 4 ^^^ 0x63#8 := by
  simp [affine, rotl8_eq_rotateLeft]

/-- The inverse of the affine transform. With y for one rotation, so that y⁸ = 1, the polynomials
1 + y + y² + y³ + y⁴ and y + y³ + y⁶ have product 1 over GF(2). -/
def affineInv (c : Byte) : Byte := rotl8 c 1 ^^^ rotl8 c 3 ^^^ rotl8 c 6 ^^^ 0x05#8

theorem affineInv_affine (b : Byte) : affineInv (affine b) = b := by
  revert b; decide +kernel

theorem affine_affineInv (c : Byte) : affine (affineInv c) = c := by
  revert c; decide +kernel

theorem affine_bijective : Function.Bijective affine :=
  Function.bijective_iff_has_inverse.mpr ⟨affineInv, affineInv_affine, affine_affineInv⟩

/-! ### The S-box over the builder's table (R172) -/

theorem sbox_buildInv_bijective : Function.Bijective (sbox buildInv) :=
  affine_bijective.comp tableEntry_buildInv_involutive.bijective

@[simp] theorem sbox_buildInv_zero : sbox buildInv 0x00#8 = 0x63#8 := by
  rw [sbox_eq_affine, tableEntry_buildInv_zero]
  rfl

/-- The S-box at a byte whose inverse is known. -/
theorem sbox_buildInv_of_gmul {a b : Byte} (h : gmul a b = 0x01#8) : sbox buildInv a = affine b := by
  rw [sbox_eq_affine, tableEntry_buildInv_of_gmul h]

/-- Read off the 256 values, as R172 reads it. -/
theorem sbox_invRom_ne : ∀ a : Byte, sbox invRom a ≠ a ∧ sbox invRom a ≠ a ^^^ 0xFF#8 := by
  decide +kernel

/-- Settles O37: the table and the affine transform are bijections; the rest is read off the values over the ROM,
which is the builder's table. -/
theorem sboxIsBijective : Obligations.SboxIsBijective := by
  have hne (a : Byte) : sbox buildInv a ≠ a ∧ sbox buildInv a ≠ a ^^^ 0xFF#8 :=
    buildInv_eq_invRom ▸ sbox_invRom_ne a
  exact ⟨sbox_buildInv_bijective, fun a => (hne a).1, fun a => (hne a).2⟩

/-! ### The command (R173) -/

/-- Settles O30: SBOX's check reads INV_READY only, and each corner value is the transform of an inverse by
multiplication. -/
theorem sboxResult : Obligations.SboxResult := by
  refine ⟨rfl, fun s hr => exec_ok (by simp [hr]), fun s hr => ?_,
    fun T a => affine_eq_rotateLeft (tableEntry T a), sbox_buildInv_zero,
    sbox_buildInv_of_gmul (b := 0x1C#8) rfl, sbox_buildInv_of_gmul (b := 0x01#8) rfl,
    sbox_buildInv_of_gmul (b := 0xCA#8) rfl⟩
  exact ⟨_, exec_error (e := .invtabNotInit) (by simp [hr]), rfl, rfl, rfl⟩

end Sys2Proof.Machine

/-! The key schedule (44_key_schedule.md): its words by the recurrence of R194, its bytes by its words, and the command
KEYEXP. -/

namespace Sys2Proof.Machine

open Sys2Proof

/-! ### The round constants (R190) -/

theorem roundConst_succ (i : Nat) : roundConst (i + 1) = xtime (roundConst i) := rfl

/-- Settles O38: the doubling is the definition's, and the ten values are an evaluation. -/
theorem roundConstants : Obligations.RoundConstants := by
  refine ⟨rfl, fun i hpos _ => ?_, by decide⟩
  rw [← roundConst_succ, Nat.sub_add_cancel hpos]

/-! ### The words (R192, R194) -/

section
variable {T : Table} {K : Block}

@[simp] theorem keyWord_byte (k : Fin 4) {j : Nat} (hj : j < 4) : (keyWord K k)[j] = K[4 * k.val + j] := by
  simp [keyWord]

@[simp] theorem rotWord_byte (t : Word) {j : Nat} (hj : j < 4) : (rotWord t)[j] = t[(j + 1) % 4] := by
  interval_cases j <;> rfl

/-- The word that holds the round constant has it in byte 0. -/
theorem constWord_byte (c : Byte) {j : Nat} (hj : j < 4) :
    (#v[c, 0x00#8, 0x00#8, 0x00#8] : Word)[j] = if j = 0 then c else 0x00#8 := by
  interval_cases j <;> rfl

theorem scheduleStep_byte (i : Nat) (t : Word) {j : Nat} (hj : j < 4) :
    (scheduleStep T i t)[j] =
      if i % 4 = 0 then
        sbox T t[(j + 1) % 4] ^^^ (if j = 0 then roundConst (i / 4 - 1) else 0x00#8)
      else t[j] := by
  unfold scheduleStep
  split
  · rw [xorWord_byte _ _ hj, subWord_byte T _ hj, rotWord_byte _ hj, constWord_byte _ hj]
  · rfl

/-- The four words that the loop starts from and the words that it makes. -/
def wordsFrom (T : Table) (n i : Nat) (a b c d : Word) : List Word := a :: b :: c :: d :: expandFrom T n i a b c d

@[simp] theorem wordsFrom_length (n i : Nat) (a b c d : Word) : (wordsFrom T n i a b c d).length = n + 4 := by
  simp [wordsFrom]

theorem wordsFrom_succ (n i : Nat) (a b c d : Word) :
    wordsFrom T (n + 1) i a b c d = a :: wordsFrom T n (i + 1) b c d (xorWord a (scheduleStep T i d)) := rfl

theorem scheduleWords_eq_wordsFrom :
    scheduleWords T K = wordsFrom T 40 4 (keyWord K 0) (keyWord K 1) (keyWord K 2) (keyWord K 3) := rfl

/-- Each word that the loop makes comes from the words four and one before it. -/
theorem wordsFrom_recurrence {n k : Nat} (hk : k < n) (i : Nat) (a b c d : Word) :
    (wordsFrom T n i a b c d)[k + 4]'(by simp; omega) =
      xorWord ((wordsFrom T n i a b c d)[k]'(by simp; omega))
        (scheduleStep T (i + k) ((wordsFrom T n i a b c d)[k + 3]'(by simp; omega))) := by
  induction n generalizing k i a b c d with
  | zero => exact absurd hk (Nat.not_lt_zero k)
  | succ n ih =>
    cases k with
    | zero => rfl
    | succ k =>
      have hindex : i + (k + 1) = i + 1 + k := by omega
      simp only [wordsFrom_succ, hindex]
      exact ih (Nat.lt_of_succ_lt_succ hk) (i + 1) b c d _

theorem scheduleWords_key {k : Nat} (hk : k < 4) :
    (scheduleWords T K)[k]'(by simp; omega) = keyWord K ⟨k, hk⟩ := by
  interval_cases k <;> rfl

theorem scheduleWords_recurrence {i : Nat} (hi : 4 ≤ i) (hi' : i < 44) :
    (scheduleWords T K)[i]'(by simp; omega) =
      xorWord ((scheduleWords T K)[i - 4]'(by simp; omega))
        (scheduleStep T i ((scheduleWords T K)[i - 1]'(by simp; omega))) := by
  obtain ⟨k, rfl⟩ := Nat.exists_eq_add_of_le' hi
  have h := wordsFrom_recurrence (T := T) (Nat.lt_of_add_lt_add_right hi') 4 (keyWord K 0) (keyWord K 1)
    (keyWord K 2) (keyWord K 3)
  simp only [Nat.add_comm 4 k, ← scheduleWords_eq_wordsFrom] at h
  exact h

/-! ### The bytes (R194) -/

/-- Byte `j` of word `i` stands at 4·i + j. -/
theorem expand_wordByte {i j : Nat} (hi : i < 44) (hj : j < 4) :
    (expand T K)[4 * i + j] = ((scheduleWords T K)[i]'(by simp; omega))[j] := by
  have hword : (4 * i + j) / 4 = i := by omega
  have hbyte : (4 * i + j) % 4 = j := by omega
  simp only [expand_byte, hword, hbyte]

theorem expand_key {m : Nat} (h : m < 16) : (expand T K)[m] = K[m] := by
  have hword : m / 4 < 4 := by omega
  have hbyte : m % 4 < 4 := by omega
  rw [expand_byte, scheduleWords_key hword, keyWord_byte _ hbyte]
  simp only [Nat.div_add_mod]

end

/-- Settles O39: byte j of the recurrence of the words. -/
theorem expandedScheduleRecurrence : Obligations.ExpandedScheduleRecurrence := by
  refine fun T K => ⟨fun m => expand_key, fun i j hi hi' hj => ?_⟩
  have hrot : (j + 1) % 4 < 4 := Nat.mod_lt _ (by decide)
  rw [expand_wordByte hi' hj, expand_wordByte (by omega) hj, expand_wordByte (by omega) hrot,
    expand_wordByte (by omega) hj, scheduleWords_recurrence hi hi', xorWord_byte _ _ hj,
    scheduleStep_byte _ _ hj]

/-! ### The command (R196) -/

theorem exec_keyexp {s : State} (hr : s.invReady = true) : exec .keyexp s = .next (finish (expandKey s)) :=
  exec_ok (by simp [hr])

/-- Settles O40: KEYEXP's check reads INV_READY only, and an error entry writes neither W nor KEY_VALID. -/
theorem keyexpResult : Obligations.KeyexpResult := by
  refine ⟨rfl, fun s hr => ?_, fun s hr => ?_⟩
  · rw [exec_keyexp hr, expandKey, setSchedule, finish]
  · exact ⟨_, exec_error (e := .invtabNotInit) (by simp [hr]), rfl, rfl, rfl, rfl⟩

end Sys2Proof.Machine

/-! The round pipeline (45_round_pipeline.md): the transforms by row and column, the rounds of an encryption, and the
commands ARK, SUB, SHR, MIX, ENC and ENCK. -/

namespace Sys2Proof.Machine

open Sys2Proof

/-! ### ShiftRows by row and column (R212) -/

section
variable (b : Block)

/-- Every byte of a block is at some row and column (10_state.md R21). -/
theorem exists_row_column {i : Nat} (hi : i < 16) : ∃ r < 4, ∃ c < 4, i = r + 4 * c :=
  ⟨i % 4, by omega, i / 4, by omega, by omega⟩

theorem shiftRows_rowColumn {r c : Nat} (hr : r < 4) (hc : c < 4) :
    (shiftRows b)[r + 4 * c] = b[r + 4 * ((c + r) % 4)] := by
  have hrow : (r + 4 * c) % 4 = r := by omega
  have hcolumn : (r + 4 * c) / 4 = c := by omega
  simp only [shiftRows_byte, hrow, hcolumn]

/-- Shifting `n` times rotates row `r` by `n * r` columns. -/
theorem shiftRows_iterate_rowColumn (n : Nat) {r c : Nat} (hr : r < 4) (hc : c < 4) :
    (shiftRows^[n] b)[r + 4 * c] = b[r + 4 * ((c + n * r) % 4)] := by
  induction n generalizing b with
  | zero => simp only [Function.iterate_zero_apply, Nat.zero_mul, Nat.add_zero, Nat.mod_eq_of_lt hc]
  | succ n ih =>
    have hrotate : ((c + n * r) % 4 + r) % 4 = (c + (n + 1) * r) % 4 := by
      rw [Nat.mod_add_mod, Nat.succ_mul, Nat.add_assoc]
    rw [Function.iterate_succ_apply, ih, shiftRows_rowColumn _ hr (Nat.mod_lt _ (by decide))]
    simp only [hrotate]

/-- After four shifts every row is back. -/
theorem shiftRows_four : shiftRows (shiftRows (shiftRows (shiftRows b))) = b := by
  have hiterate : shiftRows^[4] b = b := by
    refine Vector.ext fun i hi => ?_
    obtain ⟨r, hr, c, hc, rfl⟩ := exists_row_column hi
    have hrotate : (c + 4 * r) % 4 = c := by omega
    simp only [shiftRows_iterate_rowColumn b 4 hr hc, hrotate]
  exact hiterate

theorem shiftRows_eq_literal :
    shiftRows b = #v[b[0], b[5], b[10], b[15], b[4], b[9], b[14], b[3],
      b[8], b[13], b[2], b[7], b[12], b[1], b[6], b[11]] := by
  refine Vector.ext fun i hi => ?_
  interval_cases i <;> simp

/-- Row 0 is rotated by no column. -/
theorem shiftRows_row_zero {c : Nat} (hc : c < 4) : (shiftRows b)[4 * c] = b[4 * c] := by
  have hlane : 4 * c % 4 + 4 * ((4 * c / 4 + 4 * c % 4) % 4) = 4 * c := by omega
  simp only [shiftRows_byte, hlane]

/-- With equal columns a rotation of a row meets the same byte everywhere. -/
theorem shiftRows_of_equal_columns
    (h : ∀ r c : Nat, ∀ hr : r < 4, ∀ hc : c < 4, b[4 * c + r] = b[r]) : shiftRows b = b := by
  refine Vector.ext fun i hi => ?_
  obtain ⟨r, hr, c, hc, rfl⟩ := exists_row_column hi
  have hcolumn (c : Nat) (hc : c < 4) : b[r + 4 * c] = b[r] :=
    (getElem_congr_idx (Nat.add_comm r (4 * c))).trans (h r c hr hc)
  rw [shiftRows_rowColumn b hr hc, hcolumn _ (Nat.mod_lt _ (by decide)), hcolumn c hc]

/-! ### MixColumns by column (R213) -/

theorem mixColumns_column {c k : Nat} (hc : c < 4) (hk : k < 4) :
    (mixColumns b)[4 * c + k] =
      (mixColumn b[4 * c] b[4 * c + 1] b[4 * c + 2] b[4 * c + 3])[k] := by
  have hcolumn : (4 * c + k) / 4 = c := by omega
  have hrow : (4 * c + k) % 4 = k := by omega
  simp only [mixColumns_byte, hcolumn, hrow]

theorem gmul_three (a : Byte) : gmul 0x03#8 a = gmul 0x02#8 a ^^^ a := by
  have hthree : (0x03#8 : Byte) = 0x02#8 ^^^ 0x01#8 := rfl
  rw [hthree, xor_gmul, one_gmul]

/-- The coefficients of a row have sum 1, so a column of four equal bytes stays. -/
theorem mixColumn_self (a : Byte) {k : Nat} (hk : k < 4) : (mixColumn a a a a)[k] = a := by
  have hsum : gmul 0x02#8 a ^^^ gmul 0x03#8 a ^^^ a ^^^ a = a := by simp [gmul_three]
  refine Eq.trans ?_ hsum
  interval_cases k <;>
    simp only [mixColumn, Vector.getElem_mk, List.getElem_toArray, List.getElem_cons_zero,
      List.getElem_cons_succ] <;>
    ac_rfl

end

/-- Settles O45: byte by byte, row by row and column by column. -/
theorem transformLanes : Obligations.TransformLanes := by
  refine ⟨fun b b' k k' i hi hb hk => ?_, fun T b b' i hi hb => ?_, fun b r c => shiftRows_rowColumn b,
    fun b b' c hc h k hk => ?_⟩
  · rw [addRoundKey_byte _ _ hi, addRoundKey_byte _ _ hi, hb, hk]
  · rw [subBytes_byte _ _ hi, subBytes_byte _ _ hi, hb]
  · have h0 : b[4 * c] = b'[4 * c] := h 0 (by decide)
    rw [mixColumns_column b hc hk, mixColumns_column b' hc hk, h0, h 1 (by decide), h 2 (by decide),
      h 3 (by decide)]

/-! ### The step commands (R216 to R219) -/

/-- A performed command that writes STATE alone. -/
theorem finish_setStateReg_frame (b : Block) (s : State) :
    finish (setStateReg b s) =
      { s with stateReg := (finish (setStateReg b s)).stateReg, done := true, pending := none } := rfl

section
variable {s : State}

theorem exec_ark (hr : s.rksel.toNat ≤ 10) (hk : s.keyValid = true) :
    exec .ark s = .next (finish (setStateReg (addRoundKey s.stateReg (operandRoundKey s)) s)) :=
  exec_ok (by simp [hr, hk])

theorem exec_sub (hr : s.invReady = true) :
    exec .sub s = .next (finish (setStateReg (subBytes s.invtab s.stateReg) s)) :=
  exec_ok (by simp [hr])

theorem exec_shr (s : State) : exec .shr s = .next (finish (setStateReg (shiftRows s.stateReg) s)) :=
  exec_ok (check_shr s)

theorem exec_mix (s : State) : exec .mix s = .next (finish (setStateReg (mixColumns s.stateReg) s)) :=
  exec_ok (check_mix s)

end

/-- Settles O41: ARK's check reads RKSEL before KEY_VALID, and neither changes between two ARK. -/
theorem arkResult : Obligations.ArkResult := by
  refine ⟨rfl, fun s hr hk => ?_, fun s hr => ?_, fun s hr hk => ?_⟩
  · refine ⟨_, _, exec_ark hr hk, finish_setStateReg_frame _ s, fun i hi => ?_,
      exec_ark (by simpa using hr) (by simpa using hk), ?_⟩
    · simp [operandRoundKey, roundKey_byte _ hr]
    · simp [operandRoundKey, addRoundKey_twice]
  · exact ⟨_, exec_error (e := .badIndex) (by simp [hr]), rfl, rfl⟩
  · exact ⟨_, exec_error (e := .noKey) (by simp [hr, hk]), rfl, rfl⟩

/-- Settles O42: SUB's check reads INV_READY only; the second example is evaluated over the ROM, which is the
builder's table. -/
theorem subResult : Obligations.SubResult := by
  refine ⟨rfl, fun s hr => ?_, fun s hr => ?_, ?_, ?_⟩
  · exact ⟨_, exec_sub hr, finish_setStateReg_frame _ s, fun i hi => by simp⟩
  · exact ⟨_, exec_error (e := .invtabNotInit) (by simp [hr]), rfl, rfl, rfl⟩
  · refine Vector.ext fun i hi => ?_
    simp
  · rw [buildInv_eq_invRom]
    decide +kernel

/-- Settles O43: SHR's check never fails, and a shift rotates row r by r columns. -/
theorem shrResult : Obligations.ShrResult := by
  refine ⟨rfl, fun s => ⟨_, _, _, _, exec_shr s, finish_setStateReg_frame _ s, ?_, ?_, ?_, ?_, exec_shr _,
    exec_shr _, exec_shr _, ?_⟩, rfl⟩
  all_goals simp only [finish_stateReg, setStateReg_stateReg]
  · exact fun r c => shiftRows_rowColumn s.stateReg
  · exact shiftRows_eq_literal s.stateReg
  · exact fun c => shiftRows_row_zero s.stateReg
  · exact shiftRows_of_equal_columns s.stateReg
  · exact shiftRows_four s.stateReg

/-- Settles O44: MIX's check never fails, and each column's sums read that column only. -/
theorem mixResult : Obligations.MixResult := by
  refine ⟨rfl, fun s => ⟨_, exec_mix s, finish_setStateReg_frame _ s, fun c hc => ?_, fun c hc h k hk => ?_⟩,
    by decide +kernel, by decide +kernel, by decide +kernel⟩
  all_goals simp only [finish_stateReg, setStateReg_stateReg]
  · have hsum (k : Nat) (hk : k < 4) := mixColumns_column s.stateReg hc hk
    exact ⟨hsum 0 (by decide), hsum 1 (by decide), hsum 2 (by decide), hsum 3 (by decide)⟩
  · rw [mixColumns_column s.stateReg hc hk, h 1 (by decide), h 2 (by decide), h 3 (by decide),
      mixColumn_self _ hk]

/-! ### The rounds of an encryption (R214) -/

section
variable (T : Table) (w : Schedule) (P : Block)

theorem snapshot_full {r : Nat} (h1 : 1 ≤ r) (h9 : r ≤ 9) :
    snapshot T w P r =
      addRoundKey (mixColumns (shiftRows (subBytes T (snapshot T w P (r - 1))))) (roundKey w r) := by
  obtain ⟨n, rfl⟩ := Nat.exists_eq_add_of_le' h1
  rw [snapshot_succ, cipherRound_full _ _ _ (by omega), Nat.add_sub_cancel]

theorem snapshot_final :
    snapshot T w P 10 = addRoundKey (shiftRows (subBytes T (snapshot T w P 9))) (roundKey w 10) := by
  rw [snapshot_ten, cipherRound_final]

end

/-! ### The encryption commands (R220, R221) -/

section
variable (s : State)

@[simp] theorem encrypt_stateReg : (encrypt s).stateReg = snapshot s.invtab s.w s.stateReg 10 := by
  rw [encrypt, setCipher_stateReg, cipher]

@[simp] theorem encrypt_obs {r : Nat} (hr : r < 11) :
    (encrypt s).obs[r] = snapshot s.invtab s.w s.stateReg r := by
  simp only [encrypt, setCipher_obs, snapshots_block]

/-- An encryption does not read what a completion writes. -/
theorem finish_encrypt_finish : finish (encrypt (finish s)) = finish (encrypt s) := by
  simp only [finish, encrypt, setCipher]

end

section
variable {s : State}

theorem exec_enc (hr : s.invReady = true) (hk : s.keyValid = true) :
    exec .enc s = .next (finish (encrypt s)) := exec_ok (by simp [hr, hk])

theorem exec_enck (hr : s.invReady = true) : exec .enck s = .next (finish (encrypt (expandKey s))) :=
  exec_ok (by simp [hr])

end

/-- Settles O46: the snapshots are the rounds' states. -/
theorem encResult : Obligations.EncResult := by
  refine ⟨rfl, fun s hr hk => ⟨_, exec_enc hr hk, ?_, ?_, fun r h1 h9 => ?_, ?_, ?_⟩⟩
  · simp only [finish, encrypt, setCipher]
  all_goals simp only [finish_obs, finish_stateReg, encrypt_obs, encrypt_stateReg]
  · exact snapshot_zero _ _ _
  · exact snapshot_full _ _ _ h1 h9
  · exact snapshot_final _ _ _

/-- Settles O47: KEYEXP leaves the table valid and a schedule valid, so ENC is performed after it. -/
theorem enckIsKeyexpThenEnc : Obligations.EnckIsKeyexpThenEnc := by
  refine ⟨rfl, fun s hr => ⟨_, _, exec_keyexp hr, ?_, exec_enck hr, ?_⟩, fun s hr => ?_⟩
  · rw [exec_enc (by simpa [expandKey] using hr) (by simp [expandKey]), finish_encrypt_finish]
  · simp only [finish, encrypt, setCipher, expandKey, setSchedule]
  · exact ⟨_, exec_error (e := .invtabNotInit) (by simp [hr]), rfl, rfl, rfl, rfl, rfl, rfl⟩

/-! ### A round by its step commands -/

section
variable {s : State}

/-- The first half of every round. -/
theorem exec_sub_shr (b : Block) (hr : s.invReady = true) (hk : s.keyValid = true) :
    ∃ t u, exec .sub (setStateReg b s) = .next t ∧ exec .shr t = .next u ∧
      u.stateReg = shiftRows (subBytes s.invtab b) ∧ u.w = s.w ∧ u.keyValid = true := by
  refine ⟨_, _, exec_sub (by simpa using hr), exec_shr _, ?_⟩
  simp [hk]

/-- The end of every round. -/
theorem exec_ark_selecting {r : Nat} (hr : r ≤ 10) (hk : s.keyValid = true) :
    ∃ t, exec .ark { s with rksel := BitVec.ofNat 4 r } = .next t ∧
      t.stateReg = addRoundKey s.stateReg (roundKey s.w r) := by
  have hsel : (BitVec.ofNat 4 r).toNat = r := Nat.mod_eq_of_lt (by omega)
  refine ⟨_, exec_ark (by simpa only [hsel] using hr) hk, ?_⟩
  simp [operandRoundKey, hsel]

end

/-- Settles O48: each half of a round by its commands, and MIX between them in a full round. -/
theorem encRoundsAreStepCommands : Obligations.EncRoundsAreStepCommands := by
  intro s e hr hk he
  obtain rfl := Host.Outcome.next.inj ((exec_enc hr hk).symm.trans he)
  simp only [finish_obs, finish_stateReg, encrypt_obs, encrypt_stateReg]
  refine ⟨fun r h1 h9 => ?_, ?_⟩
  · obtain ⟨a, b, ha, hb, hstate, hw, hkey⟩ := exec_sub_shr (snapshot s.invtab s.w s.stateReg (r - 1)) hr hk
    obtain ⟨d, hd, hresult⟩ := exec_ark_selecting (s := finish (setStateReg (mixColumns b.stateReg) b))
      (show r ≤ 10 by omega) (by simpa using hkey)
    refine ⟨a, b, _, d, ha, hb, exec_mix b, hd, ?_⟩
    simp [hresult, hstate, hw, snapshot_full _ _ _ h1 h9]
  · obtain ⟨a, b, ha, hb, hstate, hw, hkey⟩ := exec_sub_shr (snapshot s.invtab s.w s.stateReg 9) hr hk
    obtain ⟨d, hd, hresult⟩ := exec_ark_selecting le_rfl hkey
    refine ⟨a, b, d, ha, hb, hd, ?_⟩
    rw [hresult, hstate, hw, snapshot_final]

end Sys2Proof.Machine

/-! Errors (60_exceptions.md): every step has a next state, what a command's error writes, which error it is, and
which steps change what is reported. -/

namespace Sys2Proof.Machine

open Sys2Proof

/-! ### No step stops (R240) -/

theorem engineStep_total (s : State) : ∃ t, engineStep s = .next t := by
  cases hp : s.pending with
  | none => exact ⟨s, engineStep_idle hp⟩
  | some c =>
    obtain ⟨t, ht, -⟩ := completeByte_completes c s
    exact ⟨t, (engineStep_busy hp).trans ht⟩

theorem runEvent_total (e : Event) (s : State) : ∃ t, runEvent e s = .next t := by
  cases e with
  | complete => exact engineStep_total s
  | read | write | reset => exact ⟨_, rfl⟩

/-- Settles O8: of the moves only the engine's could fail, and both ways of completing give a next state. -/
theorem stepNeverStops : Obligations.StepNeverStops := by
  intro s
  cases ha : s.agenda with
  | nil => exact step_of_agenda_nil ha ▸ engineStep_total s
  | cons e rest => exact step_of_agenda_cons ha ▸ runEvent_total e (setAgenda rest s)

/-! ### The error entry (R247, R248) -/

theorem errorEntry_frame (e : ErrCode) (s : State) :
    errorEntry e s = { s with
      err := true, errcode := errByte e, done := true, pending := none, fatal := (errorEntry e s).fatal } := rfl

theorem completeByte_not_legal {c : Byte} (h : legal c = false) (s : State) :
    completeByte c s = .next (errorEntry .illegalCmd s) := by
  obtain ⟨why, hd⟩ := decode_of_not_legal h
  exact completeByte_illegal hd s

/-- Settles O19: a failed check and an illegal byte both end in the error entry. -/
theorem errorsArePrecise : Obligations.ErrorsArePrecise :=
  ⟨fun _ s e h => ⟨_, exec_error h, errorEntry_frame e s⟩,
    fun _ s h => ⟨_, completeByte_not_legal h s, errorEntry_frame .illegalCmd s⟩⟩

/-! ### What is reported -/

/-- ERR, ERRCODE and DONE, and the model's record of the fatal failure, are as before. -/
structure SameReport (s t : State) : Prop where
  err : t.err = s.err
  errcode : t.errcode = s.errcode
  done : t.done = s.done
  fatal : t.fatal = s.fatal

/-- No command's own rule writes a report: only the check does. -/
theorem performed_report (i : Instr) (s : State) : SameReport s (performed i s) := by
  rcases performed_cases i s with hp | ⟨-, v, hp⟩ | ⟨-, -, b, hp⟩ | ⟨-, -, hp⟩ | ⟨-, hp⟩ | ⟨-, hp⟩ | ⟨-, hp⟩
  all_goals constructor <;> simp [hp, expandKey, encrypt]

theorem memRead_report (a : Byte) (s : State) : SameReport s (memRead a s) := by
  obtain ⟨v, n, hr⟩ := memRead_cases s a
  exact hr ▸ ⟨rfl, rfl, rfl, rfl⟩

theorem regWrite_report (v : Byte) (s : State) {l : Loc} (hcmd : l ≠ .cmd) : SameReport s (regWrite v s l) := by
  cases l with
  | cmd => exact absurd rfl hcmd
  | _ => exact ⟨rfl, rfl, rfl, rfl⟩

/-- A write that is no issue reports nothing and clears nothing. -/
theorem memWrite_report (a v : Byte) (s : State) :
    SameReport s (memWrite a v s) ∨ a = 0x23#8 ∧ memWrite a v s = issue v s := by
  rcases memWrite_cases s a v with ⟨-, hw⟩ | ⟨-, hw⟩ <;> rw [hw]
  · exact .inl ⟨rfl, rfl, rfl, rfl⟩
  by_cases hcmd : locate a = .cmd
  · exact .inr ⟨locate_eq_cmd.mp hcmd, by rw [hcmd, regWrite]⟩
  · exact .inl (regWrite_report v s hcmd)

section
variable {s t : State} {i : Instr}

theorem engineStep_report (h : engineStep s = .next t) :
    SameReport s t ∨ ∃ c, s.pending = some c ∧ completeByte c s = .next t := by
  rcases engineStep_cases h with ⟨-, rfl⟩ | hc
  · exact .inl ⟨rfl, rfl, rfl, rfl⟩
  · exact .inr hc

/-- All that a step can do to what is reported: nothing, unless it is an issue, a reset or the completion of the
byte in flight. -/
theorem step_report (h : step s = .next t) :
    SameReport s t ∨ (∃ v rest, s.agenda = .write 0x23#8 v :: rest ∧ t = issue v (setAgenda rest s)) ∨
      (∃ rest, s.agenda = .reset :: rest ∧ t = resetStep (setAgenda rest s)) ∨
      ∃ c rest, s.pending = some c ∧ completeByte c (setAgenda rest s) = .next t := by
  rcases step_cases h with ⟨-, h⟩ | ⟨rest, ⟨a, -, rfl⟩ | ⟨a, v, ha, rfl⟩ | ⟨-, h⟩ | ⟨ha, rfl⟩⟩
  · rcases engineStep_report h with hs | ⟨c, hp, h⟩
    · exact .inl hs
    · exact .inr (.inr (.inr ⟨c, s.agenda, hp, h⟩))
  · exact .inl { memRead_report a (setAgenda rest s) with }
  · rcases memWrite_report a v (setAgenda rest s) with hs | ⟨rfl, hw⟩
    · exact .inl { hs with }
    · exact .inr (.inl ⟨v, rest, ha, hw⟩)
  · rcases engineStep_report h with hs | ⟨c, hp, h⟩
    · exact .inl { hs with }
    · exact .inr (.inr (.inr ⟨c, rest, hp, h⟩))
  · exact .inr (.inr (.inl ⟨rest, ha, rfl⟩))

/-! ### The record of the fatal failure (90_conflicts.md C5) -/

theorem exec_fatal (h : exec i s = .next t) :
    t.fatal = (s.fatal || decide (check i s = some .invtabNotInit)) := by
  rcases exec_cases h with ⟨hc, rfl⟩ | ⟨e, hc, rfl⟩
  · simp [hc, (performed_report i s).fatal]
  · simp [hc]

theorem completeByte_keeps_fatal {c : Byte} (h : completeByte c s = .next t) (hs : s.fatal = true) :
    t.fatal = true := by
  rcases completeByte_cases h with ⟨i, -, h⟩ | ⟨-, rfl⟩
  · simp [exec_fatal h, hs]
  · simp [hs]

/-- Not even a reset clears the record: it is no part of the core. -/
theorem step_keeps_fatal (h : step s = .next t) (hs : s.fatal = true) : t.fatal = true := by
  rcases step_report h with hr | ⟨v, rest, -, rfl⟩ | ⟨rest, -, rfl⟩ | ⟨c, rest, -, h⟩
  · exact hr.fatal.trans hs
  · exact hs
  · exact hs
  · exact completeByte_keeps_fatal h hs

end

/-- Settles O20: the record is written by the error entry alone, which only adds to it. -/
theorem fatalFailureIsRecorded : Obligations.FatalFailureIsRecorded := by
  refine ⟨fun i s t h => by simp [exec_fatal h], fun s t ht h => Bool.eq_false_iff.mpr fun hs => ?_⟩
  exact Bool.eq_false_iff.mp ht (step_keeps_fatal h hs)

/-- Settles O21: with nothing in flight there is no completion, so what is left is an issue or a reset. -/
theorem errorStaysUntilIssueOrReset : Obligations.ErrorStaysUntilIssueOrReset := by
  intro s t hidle h hne
  rcases step_report h with hr | ⟨v, rest, ha, -⟩ | ⟨rest, ha, -⟩ | ⟨c, rest, hp, -⟩
  · simp [hr.err, hr.errcode, hr.done] at hne
  · exact .inl ⟨v, rest, ha⟩
  · exact .inr ⟨rest, ha⟩
  · simp [hidle] at hp

/-! ### Which error is reported (R243 to R246) -/

section
variable {s : State} {i : Instr}

theorem readsTable_eq_true :
    readsTable i = true ↔ i = .inv ∨ i = .sbox ∨ i = .keyexp ∨ i = .sub ∨ i = .enc ∨ i = .enck := by
  cases i <;> simp [readsTable]

theorem readsSelector_eq_true : readsSelector i = true ↔ i = .ark := by
  cases i <;> simp [readsSelector]

theorem readsSchedule_eq_true : readsSchedule i = true ↔ i = .ark ∨ i = .enc := by
  cases i <;> simp [readsSchedule]

/-- The table's check comes first of a legal command's. -/
theorem check_eq_invtabNotInit (hi : readsTable i = true) (hr : s.invReady = false) :
    check i s = some .invtabNotInit := by
  simp [check, hi, hr]

/-- The converse of `check_none`. -/
theorem check_eq_none (htable : readsTable i = true → s.invReady = true)
    (hselector : readsSelector i = true → s.rksel.toNat ≤ 10)
    (hschedule : readsSchedule i = true → s.keyValid = true) : check i s = none := by
  rw [check, if_neg, if_neg, if_neg]
  · simpa using hschedule
  · simpa [selects] using hselector
  · simpa using htable

theorem exec_reports {e : ErrCode} (h : check i s = some e) :
    ∃ t, exec i s = .next t ∧ t.err = true ∧ t.errcode = errByte e :=
  ⟨_, exec_error h, rfl, rfl⟩

theorem exec_reports_nothing (h : check i s = none) :
    ∃ t, exec i s = .next t ∧ t.err = s.err ∧ t.errcode = s.errcode :=
  ⟨_, exec_ok h, (performed_report i s).err, (performed_report i s).errcode⟩

end

/-- Settles O22: an illegal byte runs no command's check, and a command's check has one result, found in the
order of R246. -/
theorem firstFailingCheckIsReported : Obligations.FirstFailingCheckIsReported := by
  refine ⟨fun s c h => ?_, fun s i hi hr => ?_, fun s hr => ?_, fun s hr hk => ?_, fun s hr hk => ?_,
    fun s i htable hselector hschedule => ?_⟩
  · exact ⟨_, completeByte_not_legal h s, rfl, rfl⟩
  · exact exec_reports (check_eq_invtabNotInit (readsTable_eq_true.mpr hi) hr)
  · exact exec_reports (e := .badIndex) (by simp [hr])
  · exact exec_reports (e := .noKey) (by simp [hr, hk])
  · exact exec_reports (e := .noKey) (by simp [hr, hk])
  · exact exec_reports_nothing (check_eq_none (fun h => htable (readsTable_eq_true.mp h))
      (fun h => hselector (readsSelector_eq_true.mp h)) fun h => hschedule (readsSchedule_eq_true.mp h))

end Sys2Proof.Machine

/-! The reset step of a running machine (70_reset_and_hazards.md R270, R271). -/

namespace Sys2Proof.Machine

open Sys2Proof

section
variable {s : State}

theorem step_of_agenda_reset {rest : List Event} (ha : s.agenda = .reset :: rest) :
    step s = .next (resetStep (setAgenda rest s)) := by rw [step_of_agenda_cons ha, runEvent]

/-- Of STATUS only INV_READY can be set, as INV_PRELOADED says (10_state.md R41). -/
theorem statusByte_resetStep :
    statusByte (resetStep s) = if s.params.invPreloaded = true then 0x08#8 else 0x00#8 := by
  cases hp : s.params.invPreloaded <;> simp [statusByte, busy, hp]

theorem resetStep_invtab_of_preloaded (hp : s.params.invPreloaded = true) :
    (resetStep s).invtab = buildInv :=
  (consistent_resetFor s.params).tableValid hp

end

/-- Settles O59: the step is `resetStep`, whatever was in flight, and every field is the one it writes. -/
theorem resetStepValues : Obligations.ResetStepValues := by
  intro s rest ha
  exact ⟨_, step_of_agenda_reset ha, resetStep_pending _, resetStep_cmd _, resetStep_errcode _,
    resetStep_phase _, resetStep_rksel _, resetStep_obssel _, resetStep_params _, resetStep_agenda _,
    statusByte_resetStep, resetStep_invtab_of_preloaded⟩

end Sys2Proof.Machine
